-- ==== Sys2Proof/Word.lean ====
section
/-!
DEFINITION. The word types that the manual handles as bits, and the plainest arithmetic on them.
-/

namespace Sys2Proof

/-- One character of a lane or of the meter link. -/
abbrev Byte := BitVec 8

/-- A strobe index, 0 to 4095, with arithmetic modulo 4096 (R22). -/
abbrev StrobeIndex := BitVec 12

/-- The set status word of R168. -/
abbrev StatusWord := BitVec 16

/-- A flag set: bit i is the flag of index i (R167). -/
abbrev FlagSet := BitVec 48

/-- A tariff band, 0 to 7. -/
abbrev Band := Fin 8

/-- Increment of a counter that stays at `top` once it is there. -/
def satInc (top n : Nat) : Nat := if n < top then n + 1 else top

/-- Top of a 16-bit saturating counter. -/
def top16 : Nat := 65535

/-- Top of a 32-bit saturating counter. -/
def top32 : Nat := 4294967295

end Sys2Proof
end

