-- ==== Sys2Proof/Syntax.lean ====
section
/-!
DEFINITION. The steps of the device: one constructor per row of spec/opcode_table.json. A row of the meter link's command
table (R169) is the execution of the command at the head of the command queue, so its parameters are the bytes of the
queued payload and its constructor carries none (log 25).
-/

namespace Sys2Proof

/-- A phase and the lane that serves it: A, B or C. -/
inductive Phase
  | a | b | c
  deriving DecidableEq, Repr

/-- The causes of the close requests that FORCED_CLOSE_REQUEST takes (R64). The STOP request is made and taken within
the step STOP (R55). -/
inductive ForcedCause
  | switch | time | interval
  deriving DecidableEq, Repr

/-- A run of characters that a line idle has ended (R154, R166): the characters, and whether each had its stop bit. -/
structure LineFrame where
  chars    : List Byte
  stopBits : Bool
  deriving DecidableEq, Repr

/-- The steps. -/
inductive Instr
  /-- Supply rise, or RESET asserted (R1). -/
  | powerOnReset
  /-- A strobe is issued (R22). -/
  | strobe
  /-- A lane receiver ends an up-direction frame (R3). -/
  | upDirectionFrame (lane : Phase) (frame : LineFrame)
  /-- The aligner releases the oldest open set (R24). -/
  | setRelease
  /-- A lane's quality period ends (R13). -/
  | qualityPeriodEnd (lane : Phase)
  /-- The arithmetic unit takes a released set (R38). -/
  | arithmeticStep
  /-- The capture unit's block count has reached 0 (R173). -/
  | captureTerminalCount
  /-- The netting engine takes a completed set (R61). -/
  | setProcessing
  /-- The netting engine takes an outstanding close request (R64). -/
  | forcedCloseRequest (cause : ForcedCause)
  /-- The demand unit takes a credit (R121). -/
  | demandCredit
  /-- The strobe count has reached 240 000 (R98). -/
  | minuteRollover
  /-- The interval counter has reached 0 (R119). -/
  | terminalCount
  /-- The demand unit takes a notice of a SET TIME (R122). -/
  | setTimeNotice
  /-- The watchdog has reached its limit (R151). -/
  | watchdogExpiry
  /-- A lane's timebase count has reached its length (R181). -/
  | timebaseEnd (lane : Phase)
  /-- A COMMAND frame ends on the downlink (R155). -/
  | command (frame : LineFrame)
  /-- A PAUSE frame ends on the downlink (R156). -/
  | pause (frame : LineFrame)
  /-- A RESUME_FLOW frame ends on the downlink (R155). -/
  | resumeFlow (frame : LineFrame)
  /-- The upstream scheduler makes a choice (R162). -/
  | schedulerChoice
  /-- 01h (R19). -/
  | readLanes
  /-- 10h (R54). -/
  | start
  /-- 11h (R55). -/
  | stop
  /-- 12h (R57). -/
  | resume
  /-- 13h (R58). -/
  | engineReset
  /-- 14h (R80). -/
  | readWindow
  /-- 15h (R81). -/
  | readCounters
  /-- 20h (R93). -/
  | readBank
  /-- 21h (R94). -/
  | snapshot
  /-- 22h (R95). -/
  | readSnapshot
  /-- 23h (R92). -/
  | preload
  /-- 30h (R101). -/
  | setTime
  /-- 31h (R103). -/
  | readClock
  /-- 32h (R106). -/
  | addSpecialDay
  /-- 33h (R107). -/
  | removeSpecialDay
  /-- 34h (R108). -/
  | readSpecialDays
  /-- 38h (R127). -/
  | readDemand
  /-- 39h (R125). -/
  | resetDemand
  /-- 40h (R132). -/
  | readTable
  /-- 41h (R131). -/
  | writeTable
  /-- 42h (R134). -/
  | applyTable
  /-- 43h (R139). -/
  | cancelApply
  /-- 48h (R145). -/
  | readFlags
  /-- 49h (R142). -/
  | clearFlags
  /-- 4Ah (R143). -/
  | setMask
  /-- 50h (R171). -/
  | captureArm
  /-- 51h (R172). -/
  | captureTrigger
  /-- 52h (R175). -/
  | captureStop
  /-- 53h (R175). -/
  | readCaptureStatus
  /-- 58h (R177). -/
  | linkTestStart
  /-- 59h (R182). -/
  | linkTestStop
  /-- 5Ah (R182). -/
  | readLinkTest
  /-- The power-on reset ends (R1). -/
  | powerOnResetEnds
  /-- The downlink has been idle for 3 character times (R154). -/
  | downlinkLineIdle
  /-- The command at the head of the queue has no known code (R157). -/
  | badCommand
  deriving DecidableEq, Repr

end Sys2Proof
end

