-- ==== Sys2Proof/Decode.lean ====
section
/-!
DEFINITION. The rows of spec/opcode_table.json give no bits, so no word spells a step. The wire formats that the manual
does give (lane frames, link frames, command payloads, tables) are read in Sys2Proof/Machine/Operands.lean.
-/

namespace Sys2Proof

/-- The step that a word spells by the table's bits: no row of the table has bits. -/
def decodeTableWord (_nbits _w : Nat) : Option Instr := none

end Sys2Proof
end

