-- ==== Sys2Proof/Config.lean ====
section
/-!
DEFINITION. What the manual fixes for every device, and the values that it leaves open. An open value is an opaque
constant: nothing can be proved of it, so a statement that mentions one holds whatever it is.
-/

namespace Sys2Proof.Config

/-- Strobes in one minute (R98). -/
def strobesPerMinute : Nat := 240000

/-- Released sets in one quality period (R13). -/
def qualityPeriod : Nat := 4000

/-- Strobes per second of the WATCHDOG field (R148). -/
def strobesPerSecond : Nat := 4000

/-- Frames a command queue or a response queue holds (section 10.1). -/
def commandDepth : Nat := 4

/-- Responses that the response queue holds (section 10.1). -/
def responseDepth : Nat := 4

/-- Reports that the report queue holds (section 10.1). -/
def reportDepth : Nat := 8

/-- Records that the capture queue holds (section 11.1). -/
def captureDepth : Nat := 32

/-- Entries that the special-day list holds (R105). -/
def specialDayDepth : Nat := 16

/-- The modulus of a band or phase gross register (R84). -/
def registerModulus : Nat := 281474976710656

/-- The modulus of a 32-bit wrapping counter (R77, R96). -/
def modulus32 : Nat := 4294967296

/-- FREE VALUE, log 11: the index that a TEST_EXIT carries when no strobe has been issued since power-on. -/
opaque strobeIndexBeforeFirst : BitVec 12

/-- FREE VALUE, log 15: how many waiting credits the demand unit takes before it takes an install that changes its mode
or its interval (R123 allows either order). The argument is the number of the choice. -/
opaque creditsBeforeInstall : Nat → Nat

/-- FREE VALUE, log 21: the profile that READ CLOCK gives while no CALENDAR table is active and today is no special day. -/
opaque profileWithoutTable : BitVec 3

/-- FREE VALUE, log 21: whether READ CLOCK says, while no CALENDAR table is active and today is no special day, that the profile
comes from the special-day list or from the week map. -/
opaque originWithoutTable : BitVec 1

/-- FREE VALUE, log 22: the DI that READ DEMAND gives while no METER table is active. -/
opaque intervalWithoutTable : BitVec 8

/-- FREE VALUE, log 22: the watchdog limit that READ FLAGS gives while no METER table is active. -/
opaque watchdogLimitWithoutTable : BitVec 24

end Sys2Proof.Config
end

