-- ==== Sys2Proof/Machine/Types.lean ====
section
/-!
DEFINITION. The records that State is made of, block by block. Counts and energies are natural numbers or integers, as
the manual computes them exactly (R51, R79); only what the manual handles as bits is a bit vector.
-/

namespace Sys2Proof.Machine

/-- One value for each phase, or for the lane that serves it. -/
structure PerPhase (α : Type) where
  a : α
  b : α
  c : α
  deriving DecidableEq, Repr

def PerPhase.all {α : Type} (x : α) : PerPhase α := ⟨x, x, x⟩

def PerPhase.get {α : Type} (p : PerPhase α) : Phase → α
  | .a => p.a
  | .b => p.b
  | .c => p.c

def PerPhase.set {α : Type} (p : PerPhase α) (x : Phase) (v : α) : PerPhase α :=
  match x with
  | .a => { p with a := v }
  | .b => { p with b := v }
  | .c => { p with c := v }

def PerPhase.modify {α : Type} (p : PerPhase α) (x : Phase) (f : α → α) : PerPhase α := p.set x (f (p.get x))

def PerPhase.map {α β : Type} (f : α → β) (p : PerPhase α) : PerPhase β := ⟨f p.a, f p.b, f p.c⟩

def PerPhase.zip {α β γ : Type} (f : α → β → γ) (p : PerPhase α) (q : PerPhase β) : PerPhase γ :=
  ⟨f p.a q.a, f p.b q.b, f p.c q.c⟩

def PerPhase.toList {α : Type} (p : PerPhase α) : List α := [p.a, p.b, p.c]

/-! ### Lane receiver (chapter 1) -/

inductive LaneState
  | off | seek | up | suspect | lost | test
  deriving DecidableEq, Repr

/-- An accepted sample frame as the lane queue holds it (R5). -/
structure SampleFrame where
  index   : StrobeIndex
  v       : Int
  i       : Int
  vOvr    : Bool
  iOvr    : Bool
  vFault  : Bool
  iFault  : Bool
  restart : Bool
  deriving DecidableEq, Repr

/-- A stuck detector (R14). -/
structure Detector where
  previous      : Option Int
  equalRun      : Nat
  stuck         : Bool
  blockPosition : Nat
  changeSeen    : Bool
  goodBlocks    : Nat
  deriving DecidableEq, Repr

/-- The lane counters (R17), in the order of that rule's table. -/
structure LaneCounters where
  accepted       : Nat
  crcErrors      : Nat
  sequenceErrors : Nat
  late           : Nat
  resyncs        : Nat
  restarts       : Nat
  lost           : Nat
  overrange      : Nat
  deriving DecidableEq, Repr

inductive DownKind
  | strobe | testEnter | testExit
  deriving DecidableEq, Repr

/-- A frame of a lane's down direction (R2): its kind, lane, index field and 48 data bits. -/
structure DownFrame where
  kind  : DownKind
  lane  : Phase
  index : StrobeIndex
  data  : BitVec 48
  deriving DecidableEq, Repr

structure Lane where
  state            : LaneState
  queue            : List SampleFrame
  presentRun       : Nat
  absentRun        : Nat
  sequenceRun      : Nat
  periodPosition   : Nat
  periodErrors     : Nat
  lastPeriodErrors : Nat
  voltage          : Detector
  current          : Detector
  counters         : LaneCounters
  down             : List DownFrame
  deriving DecidableEq, Repr

/-! ### Aligner (chapter 2) -/

/-- A phase's voltage cycle memory, oldest code first, with its run count and estimated-set counter. -/
structure CycleMemory where
  codes     : List Int
  runCount  : Nat
  estimated : Nat
  deriving DecidableEq, Repr

structure Aligner where
  nextIndex         : StrobeIndex
  openRange         : List StrobeIndex
  latest            : Option StrobeIndex
  restartPoint      : Option StrobeIndex
  windowClosed      : Bool
  bandChanged       : Bool
  directionReversed : Bool
  cycles            : PerPhase CycleMemory
  estimating        : Bool
  deriving DecidableEq, Repr

/-- The voltage channel of a phase in a set (R26). -/
inductive VoltageChannel
  | absent
  | present (code : Int)
  | estimated (code : Int)
  deriving DecidableEq, Repr

/-- The code of a channel that has one. -/
def VoltageChannel.code : VoltageChannel → Option Int
  | .absent => none
  | .present v => some v
  | .estimated v => some v

/-- The channel with its code changed and its mark kept. -/
def VoltageChannel.map (f : Int → Int) : VoltageChannel → VoltageChannel
  | .absent => .absent
  | .present v => .present (f v)
  | .estimated v => .estimated (f v)

structure SetPhase where
  voltage : VoltageChannel
  current : Option Int
  deriving DecidableEq, Repr

/-- A set record (R26). `forNetting` says that the set still follows to the netting engine: STOP and ENGINE RESET take it
from the sets released before them (R55, R58, log 16). -/
structure SetRecord where
  index      : StrobeIndex
  status     : StatusWord
  phases     : PerPhase SetPhase
  forNetting : Bool
  deriving DecidableEq, Repr

/-! ### Arithmetic unit (chapter 3) -/

/-- One phase of a completed set (R50): the calibrated voltage with its mark present or estimated; an absent field is none. -/
structure CompletedPhase where
  voltage : VoltageChannel
  current : Option Int
  power   : Option Int
  square  : Option Int
  deriving DecidableEq, Repr

structure CompletedSet where
  index  : StrobeIndex
  status : StatusWord
  phases : PerPhase CompletedPhase
  deriving DecidableEq, Repr

/-! ### Tables (chapter 8) -/

/-- One entry of the CAL table. -/
structure CalEntry where
  vOfs     : Int
  vGain    : Nat
  iOfs     : Int
  iGain    : Nat
  delay    : Nat
  polarity : Nat
  deriving DecidableEq, Repr

/-- The METER table, fields 0 to 20 in index order. -/
structure Meter where
  lanes        : Nat
  netMode      : Nat
  nw           : Nat
  q            : Nat
  creep        : Nat
  expWarn      : Nat
  expTrip      : Nat
  tripCount    : Nat
  subst        : Nat
  cycleLen     : Nat
  substMax     : Nat
  qAssert      : Nat
  qClear       : Nat
  stuckLimit   : Nat
  lowv         : Nat
  watchdog     : Nat
  failsafeBand : Nat
  unsetBand    : Nat
  demandMode   : Nat
  di           : Nat
  reports      : Nat
  deriving DecidableEq, Repr

/-- A switch point: minute 0FFFFh is an empty one (R104). -/
structure SwitchPoint where
  minute : Nat
  band   : Nat
  deriving DecidableEq, Repr

/-- The CALENDAR table: 96 switch points, 7 week-map entries, WEEKDAY_OFFSET. -/
structure CalendarTable where
  points : List SwitchPoint
  week   : List Nat
  offset : Nat
  deriving DecidableEq, Repr

structure TriggerEntry where
  enabled : Bool
  value   : StatusWord
  mask    : StatusWord
  deriving DecidableEq, Repr

structure Tables where
  calPending      : PerPhase CalEntry
  calActive       : Option (PerPhase CalEntry)
  calRequest      : Bool
  meterPending    : Meter
  meterActive     : Option Meter
  meterRequest    : Bool
  calendarPending : CalendarTable
  calendarActive  : Option CalendarTable
  calendarRequest : Bool
  trigger         : List TriggerEntry
  deriving DecidableEq, Repr

/-! ### Netting engine (chapter 4) -/

inductive EngineState
  | config | metering | failsafe
  deriving DecidableEq, Repr

inductive CloseCause
  | full | switch | time | interval | stop
  deriving DecidableEq, Repr

inductive NetMode
  | gross | phase | sum
  deriving DecidableEq, Repr

/-- The window accumulators of one phase (R61). -/
structure PhaseSums where
  energy    : Int
  grossImp  : Nat
  grossExp  : Nat
  squares   : Int
  sets      : Nat
  deriving DecidableEq, Repr

/-- What a window takes at its first set (R60): the opening stamp and its METER values. -/
structure Opening where
  day    : Nat
  minute : Nat
  meter  : Meter
  deriving DecidableEq, Repr

structure Window where
  count   : Nat
  band    : Band
  opening : Option Opening
  sums    : PerPhase PhaseSums
  deriving DecidableEq, Repr

/-- The direction of a phase over a window (R73). -/
inductive Direction
  | idle | imports | exports
  deriving DecidableEq, Repr

/-- The direction of a phase that is not IDLE. -/
inductive Flow
  | imports | exports
  deriving DecidableEq, Repr

/-- The judgement of R74. -/
inductive LowJudgement
  | low | notLow | notEnabled
  deriving DecidableEq, Repr

inductive ExportState
  | normal | warn | trip
  deriving DecidableEq, Repr

/-- Whether the export check of a window was made (R76). -/
inductive ExportCheck
  | made | skipped | disabled
  deriving DecidableEq, Repr

/-- The window summary (R77), in the order of its fields. -/
structure Summary where
  sequence    : Nat
  cause       : Option CloseCause
  band        : Band
  day         : Nat
  minute      : Nat
  count       : Nat
  mode        : NetMode
  q           : Nat
  intervalEnd : Bool
  aImp        : Nat
  aExp        : Nat
  discard     : Int
  sums        : PerPhase PhaseSums
  direction   : PerPhase Direction
  reversal    : PerPhase Bool
  low         : PerPhase LowJudgement
  exportState : ExportState
  consecutive : Nat
  check       : ExportCheck
  deriving DecidableEq, Repr

structure Engine where
  state            : EngineState
  window           : Option Window
  lastCreditedBand : Option Band
  summary          : Summary
  sequence         : Nat
  lastDirection    : PerPhase (Option Flow)
  reversals        : PerPhase Nat
  unmeteredCount   : Nat
  unmetered        : Bool
  lowVoltage       : PerPhase Bool
  exportState      : ExportState
  consecutive      : Nat
  deriving DecidableEq, Repr

/-! ### Register bank (chapter 5) -/

/-- One value for each direction of energy. -/
structure Flows where
  imp : Nat
  exp : Nat
  deriving DecidableEq, Repr

/-- The registers and residues of the bank with the bank update count. -/
structure Accounts where
  updateCount  : Nat
  bandImp      : Vector Nat 8
  bandExp      : Vector Nat 8
  residue      : Flows
  gross        : PerPhase Flows
  grossResidue : PerPhase Flows
  deriving DecidableEq, Repr

/-- The snapshot record (R94). -/
structure Snapshot where
  taken    : Bool
  accounts : Accounts
  q        : Nat
  day      : Nat
  minute   : Nat
  clockSet : Bool
  band     : Band
  engine   : EngineState
  sequence : Nat
  deriving DecidableEq, Repr

structure Bank where
  accounts : Accounts
  snapshot : Snapshot
  deriving DecidableEq, Repr

/-- A credit that the bank hands the demand unit (R87). -/
structure Credit where
  quanta      : Flows
  band        : Band
  intervalEnd : Bool
  deriving DecidableEq, Repr

/-! ### Calendar (chapter 6) -/

inductive BandSource
  | failsafe | unset | profile | noTable
  deriving DecidableEq, Repr

structure SpecialDay where
  day     : Nat
  profile : Nat
  deriving DecidableEq, Repr

structure Calendar where
  day         : Nat
  minute      : Nat
  strobeCount : Nat
  clockSet    : Bool
  specialDays : List SpecialDay
  band        : Band
  source      : BandSource
  deriving DecidableEq, Repr

/-! ### Demand unit (chapter 7) -/

inductive IntervalState
  | idle | running | ending | done
  deriving DecidableEq, Repr

inductive DemandMode
  | aligned | free | oneShot | off
  deriving DecidableEq, Repr

/-- A max demand record. -/
structure DemandRecord where
  value  : Nat
  day    : Nat
  minute : Nat
  deriving DecidableEq, Repr

/-- The max demand records of both directions. -/
structure DemandRecords where
  imp : Vector DemandRecord 8
  exp : Vector DemandRecord 8
  deriving DecidableEq, Repr

structure Demand where
  state          : IntervalState
  partialMark    : Bool
  sums           : Flows
  base           : Nat
  current        : Nat
  terminal       : Bool
  stampDay       : Nat
  stampMinute    : Nat
  restartPending : Bool
  records        : DemandRecords
  previous       : DemandRecords
  resetCount     : Nat
  deriving DecidableEq, Repr

/-! ### Fault monitor (chapter 9) -/

structure Monitor where
  latched         : FlagSet
  conditions      : FlagSet
  mask            : FlagSet
  alert           : Bool
  watchdogRunning : Bool
  watchdogCount   : Nat
  expired         : Bool
  deriving DecidableEq, Repr

/-- An urgent notice (R146). -/
structure Notice where
  flags      : FlagSet
  raiseCount : Nat
  engine     : EngineState
  day        : Nat
  minute     : Nat
  clockSet   : Bool
  deriving DecidableEq, Repr

/-! ### Link port (chapter 10) -/

inductive Status
  | ok | clamped | staged | refusedState | refusedRange | crcMismatch | invalidTable | notReady | listFull | notFound
  | badCommand
  deriving DecidableEq, Repr

/-- A response (R158): the echoed code, the status and the data. -/
structure Response where
  code   : Byte
  status : Status
  data   : List Byte
  deriving DecidableEq, Repr

/-- A capture record (R174): an absent channel is none. -/
structure CaptureRecord where
  index   : StrobeIndex
  status  : StatusWord
  voltage : PerPhase (Option Int)
  current : PerPhase (Option Int)
  deriving DecidableEq, Repr

inductive UpKind
  | response | report | notice | capture
  deriving DecidableEq, Repr

/-- An upstream frame (R159, R167): the parts of its first header byte, and its payload. -/
structure UpFrame where
  kind    : UpKind
  more    : Bool
  paused  : Bool
  engine  : EngineState
  alert   : Bool
  payload : List Byte
  deriving DecidableEq, Repr

/-- The downlink receiver (section 10.1). -/
inductive DownlinkState
  | waitingForIdle
  | idle
  | receiving (soFar : LineFrame)
  deriving DecidableEq, Repr

/-- The uplink (section 10.1). The gap after a frame is real time, which the model leaves out: a frame is shown as sending from
its choice on, and no step leaves the line in the gap (log 9). -/
inductive UplinkState
  | idle
  | sending (frame : UpFrame)
  | gap
  deriving DecidableEq, Repr

/-- The sources of the scheduler's rotation (R160). -/
inductive Source
  | response | report | capture
  deriving DecidableEq, Repr

structure Link where
  downlink           : DownlinkState
  commands           : List (List Byte)
  responses          : List Response
  responseInProgress : Option Response
  reports            : List Summary
  reportInProgress   : Option Summary
  urgent             : Option Notice
  paused             : Bool
  rotation           : List Source
  uplink             : UplinkState
  deriving DecidableEq, Repr

/-! ### Capture unit and lane test checker (chapter 11) -/

inductive CaptureState
  | idle | armed | running
  deriving DecidableEq, Repr

inductive CaptureMode
  | once | rearm | stream
  deriving DecidableEq, Repr

inductive TriggerSource
  | none
  | entry (i : Fin 4)
  | command
  deriving DecidableEq, Repr

structure Capture where
  state           : CaptureState
  mode            : CaptureMode
  base            : Nat
  current         : Nat
  decimation      : Nat
  decimationCount : Nat
  source          : TriggerSource
  sourceIndex     : Option StrobeIndex
  queue           : List CaptureRecord
  overrun         : Nat
  deriving DecidableEq, Repr

inductive CheckerState
  | idle | seeding | hunting | synced
  deriving DecidableEq, Repr

inductive Pattern
  | prbs15 | fixed
  deriving DecidableEq, Repr

inductive Timebase
  | continuous | pow16 | pow20 | pow24
  deriving DecidableEq, Repr

structure Checker where
  state         : CheckerState
  pattern       : Pattern
  invert        : Bool
  syncMask      : Bool
  timebase      : Timebase
  limitCode     : Byte
  fixedWord     : BitVec 48
  generator     : BitVec 15
  expected      : Option StrobeIndex
  goodRun       : Nat
  badRun        : Nat
  running       : Nat
  lastResult    : Nat
  resultValid   : Bool
  failMark      : Bool
  timebaseCount : Nat
  timebaseBegun : Bool
  syncLosses    : Nat
  deriving DecidableEq, Repr

end Sys2Proof.Machine
end

