-- ==== Sys2Proof/Machine/PowerOn.lean ====
section
/-!
DEFINITION. The value of each block's state after power-on.
-/

namespace Sys2Proof.Machine

/-- R14, R21. -/
def detectorAtPowerOn : Detector :=
  { previous := none, equalRun := 0, stuck := false, blockPosition := 0, changeSeen := false, goodBlocks := 0 }

/-- R17, R21. -/
def laneCountersAtPowerOn : LaneCounters :=
  { accepted := 0, crcErrors := 0, sequenceErrors := 0, late := 0, resyncs := 0, restarts := 0, lost := 0, overrange := 0 }

/-- R21. -/
def laneAtPowerOn : Lane :=
  { state := .off, queue := [], presentRun := 0, absentRun := 0, sequenceRun := 0, periodPosition := 0, periodErrors := 0,
    lastPeriodErrors := 0, voltage := detectorAtPowerOn, current := detectorAtPowerOn,
    counters := laneCountersAtPowerOn, down := [] }

/-- R37. -/
def cycleMemoryAtPowerOn : CycleMemory := { codes := [], runCount := 0, estimated := 0 }

/-- R37. -/
def alignerAtPowerOn : Aligner :=
  { nextIndex := 0, openRange := [], latest := none, restartPoint := none, windowClosed := false, bandChanged := false,
    directionReversed := false, cycles := .all cycleMemoryAtPowerOn, estimating := false }

/-- The unity values of R39. -/
def calUnity : CalEntry := { vOfs := 0, vGain := 32768, iOfs := 0, iGain := 32768, delay := 0, polarity := 0 }

/-- The power-on pending METER copy (section 8.2). -/
def meterAtPowerOn : Meter :=
  { lanes := 7, netMode := 2, nw := 4000, q := 1000000000000, creep := 0, expWarn := 0, expTrip := 0, tripCount := 1,
    subst := 1, cycleLen := 80, substMax := 0, qAssert := 16, qClear := 4, stuckLimit := 0, lowv := 0, watchdog := 0,
    failsafeBand := 8, unsetBand := 0, demandMode := 3, di := 15, reports := 0 }

/-- The power-on pending CALENDAR copy (section 8.2). -/
def calendarTableAtPowerOn : CalendarTable :=
  { points := List.replicate 96 { minute := 0xFFFF, band := 0 }, week := List.replicate 7 0, offset := 0 }

/-- R128. -/
def tablesAtPowerOn : Tables :=
  { calPending := .all calUnity, calActive := none, calRequest := false,
    meterPending := meterAtPowerOn, meterActive := none, meterRequest := false,
    calendarPending := calendarTableAtPowerOn, calendarActive := none, calendarRequest := false,
    trigger := List.replicate 4 { enabled := false, value := 0, mask := 0 } }

def sumsZero : PhaseSums := { energy := 0, grossImp := 0, grossExp := 0, squares := 0, sets := 0 }

/-- R59. The netting mode, the interval-end mark, the directions, the reversal marks, the LOW judgements and the export check that
the record shows before any close are DESIGN CHOICE, unsafe (log 18): R59 gives its numeric fields, its cause and its band. -/
def summaryAtPowerOn : Summary :=
  { sequence := 0, cause := none, band := 0, day := 0, minute := 0, count := 0, mode := .gross, q := 0, intervalEnd := false,
    aImp := 0, aExp := 0, discard := 0, sums := .all sumsZero, direction := .all .idle, reversal := .all false,
    low := .all .notEnabled, exportState := .normal, consecutive := 0, check := .disabled }

/-- R59. -/
def engineAtPowerOn : Engine :=
  { state := .config, window := none, lastCreditedBand := none, summary := summaryAtPowerOn, sequence := 0,
    lastDirection := .all none, reversals := .all 0, unmeteredCount := 0, unmetered := false, lowVoltage := .all false,
    exportState := .normal, consecutive := 0 }

/-- R97. -/
def accountsAtPowerOn : Accounts :=
  { updateCount := 0, bandImp := Vector.replicate 8 0, bandExp := Vector.replicate 8 0, residue := ⟨0, 0⟩,
    gross := .all ⟨0, 0⟩, grossResidue := .all ⟨0, 0⟩ }

/-- R97. -/
def bankAtPowerOn : Bank :=
  { accounts := accountsAtPowerOn,
    snapshot := { taken := false, accounts := accountsAtPowerOn, q := 0, day := 0, minute := 0, clockSet := false,
                  band := 0, engine := .config, sequence := 0 } }

/-- R114. -/
def calendarAtPowerOn : Calendar :=
  { day := 0, minute := 0, strobeCount := 0, clockSet := false, specialDays := [], band := 0, source := .unset }

def recordZero : DemandRecord := { value := 0, day := 0, minute := 0 }

def recordsZero : DemandRecords := { imp := Vector.replicate 8 recordZero, exp := Vector.replicate 8 recordZero }

/-- R124. -/
def demandAtPowerOn : Demand :=
  { state := .idle, partialMark := false, sums := ⟨0, 0⟩, base := 0, current := 0, terminal := false, stampDay := 0,
    stampMinute := 0, restartPending := false, records := recordsZero, previous := recordsZero, resetCount := 0 }

/-- R153: CLOCK_NOT_SET (index 29) is true and latched, and the summary is set. -/
def monitorAtPowerOn : Monitor :=
  { latched := 0x20000000#48, conditions := 0x20000000#48, mask := 0, alert := true, watchdogRunning := false,
    watchdogCount := 0, expired := false }

/-- R164. -/
def linkAtPowerOn : Link :=
  { downlink := .waitingForIdle, commands := [], responses := [], responseInProgress := none, reports := [],
    reportInProgress := none, urgent := none, paused := false, rotation := [.response, .report, .capture],
    uplink := .idle }

/-- R176. -/
def captureAtPowerOn : Capture :=
  { state := .idle, mode := .once, base := 1, current := 0, decimation := 1, decimationCount := 0, source := .none,
    sourceIndex := none, queue := [], overrun := 0 }

/-- R182. The generator's value is DESIGN CHOICE, unsafe (log 31): R182 gives the counts, the marks, the settings and the expected
index only. -/
def checkerAtPowerOn : Checker :=
  { state := .idle, pattern := .prbs15, invert := false, syncMask := false, timebase := .continuous, limitCode := 0,
    fixedWord := 0, generator := 0, expected := none, goodRun := 0, badRun := 0, running := 0, lastResult := 0,
    resultValid := false, failMark := false, timebaseCount := 0, timebaseBegun := false, syncLosses := 0 }

end Sys2Proof.Machine
end

