-- ==== Sys2Proof/Machine/State.lean ====
section
/-!
DEFINITION. The state of the whole device, the reasons a step can stop, and the state right after the power-on reset.
-/

namespace Sys2Proof.Machine

/-- The reasons for a fault: there are none. Every row of the table has an effect in every state, and what the manual
calls a fault (a flag, an error counter, a refused command's status) is an effect on State. Safe: nothing stops. -/
inductive Fault
  deriving DecidableEq, Repr

/-- The reasons for a refusal. -/
inductive Refusal
  /-- Raised by exec's arm of a row that has no meaning yet; no arm raises it. Safe: the model stops. -/
  | notModelled (mnemonic : String)
  deriving DecidableEq, Repr

/-- The device. The fields `released`, `completed`, `requests`, `credits` and `timeNotices` are hand-overs between blocks
that have been made and not yet taken (log 16); `freeChoices` counts the choices that the spec leaves open (log 15);
`pending` is the queue of waiting steps (log 1). -/
structure State where
  resetApplied : Bool
  lanes        : PerPhase Lane
  aligner      : Aligner
  released     : List SetRecord
  history      : PerPhase (Option Int)
  completed    : List CompletedSet
  engine       : Engine
  requests     : List ForcedCause
  bank         : Bank
  calendar     : Calendar
  demand       : Demand
  credits      : List Credit
  timeNotices  : List Nat
  tables       : Tables
  monitor      : Monitor
  link         : Link
  capture      : Capture
  checkers     : PerPhase Checker
  freeChoices  : Nat
  pending      : List Instr
  deriving DecidableEq, Repr

/-- The device when the power-on reset has just ended (R1, log 7). -/
def State.reset : State :=
  { resetApplied := false
    lanes := .all laneAtPowerOn
    aligner := alignerAtPowerOn
    released := []
    history := .all none
    completed := []
    engine := engineAtPowerOn
    requests := []
    bank := bankAtPowerOn
    calendar := calendarAtPowerOn
    demand := demandAtPowerOn
    credits := []
    timeNotices := []
    tables := tablesAtPowerOn
    monitor := monitorAtPowerOn
    link := linkAtPowerOn
    capture := captureAtPowerOn
    checkers := .all checkerAtPowerOn
    freeChoices := 0
    pending := [] }

end Sys2Proof.Machine
end

