-- ==== Sys2Proof/Machine/Operands.lean ====
section
/-!
DEFINITION. The wire formats: the CRC-16, byte order, lane frames, meter link frames, table entries, and the encoding of
response data, reports, notices and capture records (R129, R130, R166 to R170).
-/

namespace Sys2Proof.Machine

/-! ### CRC-16 and byte order -/

/-- One bit of the CRC register, generator x^16 + x^12 + x^5 + 1 (R129). -/
def crcBit (reg : BitVec 16) : BitVec 16 :=
  if reg.msb then (reg <<< 1) ^^^ 0x1021#16 else reg <<< 1

/-- One byte of the CRC, most significant bit first (R129). -/
def crcByte (reg : BitVec 16) (byte : Byte) : BitVec 16 :=
  crcBit (crcBit (crcBit (crcBit (crcBit (crcBit (crcBit (crcBit (reg ^^^ (byte.setWidth 16 <<< 8)))))))))

/-- The CRC-16 of the device (R129). -/
def crc16 (bytes : List Byte) : BitVec 16 := bytes.foldl crcByte 0xFFFF#16

/-- The `n` low bytes of a number, high byte first (R170). -/
def beBytes : Nat → Nat → List Byte
  | 0, _ => []
  | n + 1, x => beBytes n (x / 256) ++ [BitVec.ofNat 8 x]

/-- A signed number in `n` bytes of two's complement, high byte first (R170). -/
def beSigned (n : Nat) (x : Int) : List Byte := beBytes n (x % (256 ^ n : Nat)).toNat

/-- The number that bytes carry, high byte first. -/
def beNat (bytes : List Byte) : Nat := bytes.foldl (fun acc b => acc * 256 + b.toNat) 0

/-- The two's complement number that bytes carry, high byte first. -/
def beInt (bytes : List Byte) : Int :=
  let x := beNat bytes
  let m := 256 ^ bytes.length
  if 2 * x < m then (x : Int) else (x : Int) - (m : Int)

/-- A mark in one byte (R170). -/
def markByte (b : Bool) : Byte := if b then 1 else 0

/-- A flag set in six bytes, indices 0 to 7 in the first (R167). -/
def flagSetBytes (f : FlagSet) : List Byte :=
  [f.extractLsb' 0 8, f.extractLsb' 8 8, f.extractLsb' 16 8, f.extractLsb' 24 8, f.extractLsb' 32 8, f.extractLsb' 40 8]

/-- The flag set that six bytes carry (R167). -/
def flagSetOf (bytes : List Byte) : FlagSet := BitVec.ofNat 48 (beNat bytes.reverse)

/-! ### Numbering of names (R167, R169, R170; log 19) -/

/-- Lanes and phases: 0 A, 1 B, 2 C (R169). -/
def phaseNumber : Phase → Nat
  | .a => 0
  | .b => 1
  | .c => 2

def phaseOf (n : Nat) : Option Phase :=
  match n with
  | 0 => some .a
  | 1 => some .b
  | 2 => some .c
  | _ => none

def engineCode : EngineState → Byte
  | .config => 0
  | .metering => 1
  | .failsafe => 2

def laneStateCode : LaneState → Byte
  | .off => 0
  | .seek => 1
  | .up => 2
  | .suspect => 3
  | .lost => 4
  | .test => 5

/-- "stuck or not stuck" (R14): DEDUCED, safe or unsafe as log 19 says. -/
def stuckCode (stuck : Bool) : Byte := if stuck then 0 else 1

/-- "running or stopped" (section 9.1): DEDUCED, log 19. -/
def watchdogCode (running : Bool) : Byte := if running then 0 else 1

def causeCode : Option CloseCause → Byte
  | some .full => 0
  | some .switch => 1
  | some .time => 2
  | some .interval => 3
  | some .stop => 4
  | none => 5

def netModeCode : NetMode → Byte
  | .gross => 0
  | .phase => 1
  | .sum => 2

def directionCode : Direction → Byte
  | .idle => 0
  | .imports => 1
  | .exports => 2

/-- "none, IMPORT or EXPORT" (section 4.1). -/
def lastDirectionCode : Option Flow → Byte
  | none => 0
  | some .imports => 1
  | some .exports => 2

def lowCode : LowJudgement → Byte
  | .low => 0
  | .notLow => 1
  | .notEnabled => 2

def exportCode : ExportState → Byte
  | .normal => 0
  | .warn => 1
  | .trip => 2

def checkCode : ExportCheck → Byte
  | .made => 0
  | .skipped => 1
  | .disabled => 2

def bandByte (b : Band) : Byte := BitVec.ofNat 8 b.val

/-- "FAILSAFE, UNSET, PROFILE or NO_TABLE" (section 6.1). -/
def bandSourceCode : BandSource → Byte
  | .failsafe => 0
  | .unset => 1
  | .profile => 2
  | .noTable => 3

def intervalCode : IntervalState → Byte
  | .idle => 0
  | .running => 1
  | .ending => 2
  | .done => 3

def demandModeCode : DemandMode → Byte
  | .aligned => 0
  | .free => 1
  | .oneShot => 2
  | .off => 3

def captureStateCode : CaptureState → Byte
  | .idle => 0
  | .armed => 1
  | .running => 2

def captureModeCode : CaptureMode → Byte
  | .once => 0
  | .rearm => 1
  | .stream => 2

/-- "none, trigger entry 0..3, or command" (section 11.1). -/
def triggerSourceCode : TriggerSource → Byte
  | .none => 0
  | .entry i => BitVec.ofNat 8 (i.val + 1)
  | .command => 5

def checkerStateCode : CheckerState → Byte
  | .idle => 0
  | .seeding => 1
  | .hunting => 2
  | .synced => 3

def patternCode : Pattern → Byte
  | .prbs15 => 0
  | .fixed => 1

def timebaseCode : Timebase → Byte
  | .continuous => 0
  | .pow16 => 1
  | .pow20 => 2
  | .pow24 => 3

/-- Status codes (R167). -/
def statusCode : Status → Byte
  | .ok => 0
  | .clamped => 1
  | .staged => 2
  | .refusedState => 3
  | .refusedRange => 4
  | .crcMismatch => 5
  | .invalidTable => 6
  | .notReady => 7
  | .listFull => 8
  | .notFound => 9
  | .badCommand => 10

/-- A strobe index that may be none and has no mark of its own: one byte ahead (R170). -/
def optionalIndex : Option StrobeIndex → List Byte
  | none => 0 :: beBytes 2 0
  | some i => 1 :: beBytes 2 i.toNat

/-! ### Lane frames (R166) -/

def downKindNumber : DownKind → Nat
  | .strobe => 1
  | .testEnter => 2
  | .testExit => 3

/-- A lane's number in a lane frame: 1 A, 2 B, 3 C (R166). -/
def laneId (x : Phase) : Nat := phaseNumber x + 1

/-- The 11 bytes of a down frame (R166). -/
def DownFrame.bytes (f : DownFrame) : List Byte :=
  let body := BitVec.ofNat 8 (downKindNumber f.kind * 32 + laneId f.lane * 8) :: beBytes 2 f.index.toNat
    ++ beBytes 6 f.data.toNat
  body ++ beBytes 2 (crc16 body).toNat

/-- An up-direction frame whose integrity holds, by its fields (R166). -/
structure UpLaneFrame where
  kind    : Nat
  lane    : Nat
  vOvr    : Bool
  iOvr    : Bool
  restart : Bool
  vFault  : Bool
  iFault  : Bool
  index   : StrobeIndex
  v       : Int
  i       : Int
  data    : BitVec 48
  deriving DecidableEq, Repr

/-- The integrity step of R3: none is a CRC error, the framing faults of R166 among them. -/
def parseLaneFrame (f : LineFrame) : Option UpLaneFrame :=
  if f.stopBits && f.chars.length == 11 && crc16 (f.chars.take 9) == BitVec.ofNat 16 (beNat (f.chars.drop 9)) then
    let b0 := f.chars.getD 0 0
    let b1 := f.chars.getD 1 0
    some
      { kind := b0.toNat / 32, lane := b0.toNat / 8 % 4, vOvr := b0.getLsbD 2, iOvr := b0.getLsbD 1,
        restart := b1.getLsbD 7, vFault := b1.getLsbD 6, iFault := b1.getLsbD 5,
        index := BitVec.ofNat 12 (beNat ((f.chars.drop 1).take 2)),
        v := beInt ((f.chars.drop 3).take 3), i := beInt ((f.chars.drop 6).take 3),
        data := BitVec.ofNat 48 (beNat ((f.chars.drop 3).take 6)) }
  else none

/-! ### Downlink frames (R154, R167) -/

/-- A good downlink frame. -/
inductive DownlinkFrame
  | command (payload : List Byte)
  | pause
  | resumeFlow
  deriving DecidableEq, Repr

/-- The judgement of R154: none is a faulty frame. -/
def parseDownlinkFrame (f : LineFrame) : Option DownlinkFrame :=
  let n := f.chars.length
  let kind := f.chars.getD 0 0
  let len := (f.chars.getD 1 0).toNat
  if f.stopBits && decide (4 ≤ n) && decide (len ≤ 120) && n == 4 + len
      && crc16 (f.chars.take (2 + len)) == BitVec.ofNat 16 (beNat (f.chars.drop (2 + len))) then
    if kind = 1 then (if len = 0 then none else some (.command ((f.chars.drop 2).take len)))
    else if kind = 2 then (if len = 0 then some .pause else none)
    else if kind = 3 then (if len = 0 then some .resumeFlow else none)
    else none
  else none

/-! ### Table entries and canonical images (R130) -/

def CalEntry.bytes (e : CalEntry) : List Byte :=
  beSigned 2 e.vOfs ++ beBytes 2 e.vGain ++ beSigned 2 e.iOfs ++ beBytes 2 e.iGain ++ beBytes 1 e.delay
    ++ beBytes 1 e.polarity

def calEntryOf (b : List Byte) : CalEntry :=
  { vOfs := beInt (b.take 2), vGain := beNat ((b.drop 2).take 2), iOfs := beInt ((b.drop 4).take 2),
    iGain := beNat ((b.drop 6).take 2), delay := beNat ((b.drop 8).take 1), polarity := beNat ((b.drop 9).take 1) }

/-- The METER fields in index order. -/
def Meter.fields (m : Meter) : List Nat :=
  [m.lanes, m.netMode, m.nw, m.q, m.creep, m.expWarn, m.expTrip, m.tripCount, m.subst, m.cycleLen, m.substMax,
   m.qAssert, m.qClear, m.stuckLimit, m.lowv, m.watchdog, m.failsafeBand, m.unsetBand, m.demandMode, m.di, m.reports]

/-- The METER table of 21 field values. -/
def meterOf (l : List Nat) : Meter :=
  { lanes := l.getD 0 0, netMode := l.getD 1 0, nw := l.getD 2 0, q := l.getD 3 0, creep := l.getD 4 0,
    expWarn := l.getD 5 0, expTrip := l.getD 6 0, tripCount := l.getD 7 0, subst := l.getD 8 0, cycleLen := l.getD 9 0,
    substMax := l.getD 10 0, qAssert := l.getD 11 0, qClear := l.getD 12 0, stuckLimit := l.getD 13 0,
    lowv := l.getD 14 0, watchdog := l.getD 15 0, failsafeBand := l.getD 16 0, unsetBand := l.getD 17 0,
    demandMode := l.getD 18 0, di := l.getD 19 0, reports := l.getD 20 0 }

def TriggerEntry.bytes (e : TriggerEntry) : List Byte :=
  markByte e.enabled :: beBytes 2 e.value.toNat ++ beBytes 2 e.mask.toNat

def triggerEntryOf (b : List Byte) : TriggerEntry :=
  { enabled := b.getD 0 0 == 1, value := BitVec.ofNat 16 (beNat ((b.drop 1).take 2)),
    mask := BitVec.ofNat 16 (beNat ((b.drop 3).take 2)) }

/-- The encoded entries of a CAL copy in index order. -/
def calEntries (t : PerPhase CalEntry) : List (List Byte) := t.toList.map CalEntry.bytes

/-- The encoded entries of a METER copy in index order. -/
def meterEntries (m : Meter) : List (List Byte) := m.fields.map (beBytes 8)

/-- The encoded entries of a CALENDAR copy in index order. -/
def calendarEntries (t : CalendarTable) : List (List Byte) :=
  t.points.map (fun p => beBytes 2 p.minute ++ beBytes 1 p.band) ++ t.week.map (beBytes 1) ++ [beBytes 1 t.offset]

/-- The encoded entries of the TRIGGER table in index order. -/
def triggerEntries (t : List TriggerEntry) : List (List Byte) := t.map TriggerEntry.bytes

/-- A canonical image (R130). -/
def image (entries : List (List Byte)) : List Byte := entries.flatten

/-- Bytes cut into pieces of `n`; `fuel` bounds the number of pieces. -/
def pieces (n : Nat) : Nat → List Byte → List (List Byte)
  | 0, _ => []
  | fuel + 1, bytes => if bytes.isEmpty then [] else bytes.take n :: pieces n fuel (bytes.drop n)

/-! ### Records (R170) -/

def PhaseSums.bytes (p : PhaseSums) : List Byte :=
  beSigned 8 p.energy ++ beBytes 8 p.grossImp ++ beBytes 8 p.grossExp ++ beSigned 8 p.squares ++ beBytes 3 p.sets

/-- The 163 bytes of a window summary (R77, R170). That "reversal: counted or not" is a mark is DEDUCED (log 19). -/
def Summary.bytes (w : Summary) : List Byte :=
  beBytes 4 w.sequence ++ [causeCode w.cause, bandByte w.band] ++ beBytes 2 w.day ++ beBytes 2 w.minute
    ++ beBytes 3 w.count ++ [netModeCode w.mode] ++ beBytes 7 w.q ++ [markByte w.intervalEnd]
    ++ beBytes 8 w.aImp ++ beBytes 8 w.aExp ++ beSigned 8 w.discard
    ++ (w.sums.toList.map PhaseSums.bytes).flatten
    ++ w.direction.toList.map directionCode ++ w.reversal.toList.map markByte ++ w.low.toList.map lowCode
    ++ [exportCode w.exportState] ++ beBytes 1 w.consecutive ++ [checkCode w.check]

/-- The 13 bytes of a notice (R170). -/
def Notice.bytes (n : Notice) : List Byte :=
  flagSetBytes n.flags ++ beBytes 1 n.raiseCount ++ [engineCode n.engine] ++ beBytes 2 n.day ++ beBytes 2 n.minute
    ++ [markByte n.clockSet]

/-- The absent marks of a capture record: bits 0 and 1 phase A, 2 and 3 phase B, 4 and 5 phase C (R170). -/
def absentMarks (r : CaptureRecord) : Byte :=
  BitVec.ofNat 8
    ((if r.voltage.a.isNone then 1 else 0) + (if r.current.a.isNone then 2 else 0)
      + (if r.voltage.b.isNone then 4 else 0) + (if r.current.b.isNone then 8 else 0)
      + (if r.voltage.c.isNone then 16 else 0) + (if r.current.c.isNone then 32 else 0))

/-- The 23 bytes of a capture record (R170); an absent channel carries 0 (R174). -/
def CaptureRecord.bytes (r : CaptureRecord) : List Byte :=
  beBytes 2 r.index.toNat ++ beBytes 2 r.status.toNat ++ [absentMarks r]
    ++ beSigned 3 (r.voltage.a.getD 0) ++ beSigned 3 (r.current.a.getD 0)
    ++ beSigned 3 (r.voltage.b.getD 0) ++ beSigned 3 (r.current.b.getD 0)
    ++ beSigned 3 (r.voltage.c.getD 0) ++ beSigned 3 (r.current.c.getD 0)

def upKindNumber : UpKind → Nat
  | .response => 4
  | .report => 5
  | .notice => 6
  | .capture => 7

/-- Header byte 0 of an upstream frame (R167). -/
def UpFrame.header (f : UpFrame) : Byte :=
  BitVec.ofNat 8
    (upKindNumber f.kind + (if f.more then 8 else 0) + (if f.paused then 16 else 0) + (engineCode f.engine).toNat * 32
      + (if f.alert then 128 else 0))

/-- The bytes of an upstream frame on the line (R167). -/
def UpFrame.bytes (f : UpFrame) : List Byte :=
  let body := f.header :: BitVec.ofNat 8 f.payload.length :: f.payload
  body ++ beBytes 2 (crc16 body).toNat

end Sys2Proof.Machine
end

