-- ==== Sys2Proof/Machine/Flags.lean ====
section
/-!
DEFINITION. The fault monitor: the 41 flags, raising and reporting, the alert summary and urgent notices (chapter 9).
-/

namespace Sys2Proof.Machine

/-- The flags of section 9.2. -/
inductive Flag
  | laneLost (x : Phase)
  | laneSuspect (x : Phase)
  | laneResync (x : Phase)
  | feRestart (x : Phase)
  | vStuck (x : Phase)
  | iStuck (x : Phase)
  | overrange (x : Phase)
  | lowVoltage (x : Phase)
  | unmetered
  | estimating
  | exportWarn
  | exportTrip
  | failsafe
  | clockNotSet
  | energyRollover
  | tableInstalled
  | applyCancelled
  | demandDone
  | commandOverflow
  | downlinkError
  | reportDropped
  | captureOverrun
  | linkTestFail (x : Phase)
  deriving DecidableEq, Repr

/-- The index of a flag (section 9.2). -/
def Flag.index : Flag → Nat
  | .laneLost x => 8 * phaseNumber x
  | .laneSuspect x => 8 * phaseNumber x + 1
  | .laneResync x => 8 * phaseNumber x + 2
  | .feRestart x => 8 * phaseNumber x + 3
  | .vStuck x => 8 * phaseNumber x + 4
  | .iStuck x => 8 * phaseNumber x + 5
  | .overrange x => 8 * phaseNumber x + 6
  | .lowVoltage x => 8 * phaseNumber x + 7
  | .unmetered => 24
  | .estimating => 25
  | .exportWarn => 26
  | .exportTrip => 27
  | .failsafe => 28
  | .clockNotSet => 29
  | .energyRollover => 30
  | .tableInstalled => 31
  | .applyCancelled => 32
  | .demandDone => 33
  | .commandOverflow => 34
  | .downlinkError => 35
  | .reportDropped => 36
  | .captureOverrun => 37
  | .linkTestFail x => 38 + phaseNumber x

/-- The flags of the urgent class (R146). -/
def Flag.urgent : Flag → Bool
  | .laneLost _ | .unmetered | .exportTrip | .failsafe => true
  | .laneSuspect _ | .laneResync _ | .feRestart _ | .vStuck _ | .iStuck _ | .overrange _ | .lowVoltage _ | .estimating
  | .exportWarn | .clockNotSet | .energyRollover | .tableInstalled | .applyCancelled | .demandDone | .commandOverflow
  | .downlinkError | .reportDropped | .captureOverrun | .linkTestFail _ => false

/-- The flag set that names one flag. -/
def Flag.bit (f : Flag) : FlagSet := 1#48 <<< f.index

/-- A flag set names a flag. -/
def FlagSet.names (s : FlagSet) (f : Flag) : Bool := s.getLsbD f.index

/-- The flags 41 to 47, which name no flag (section 9.2). -/
def unnamedFlags : FlagSet := 0xFE0000000000#48

/-- The alert summary is formed again (R144). -/
def Monitor.formAlert (m : Monitor) : Monitor := { m with alert := decide (m.latched &&& ~~~m.mask ≠ 0#48) }

/-- The latched mark of a flag is set, and the summary formed again (R141, R144). -/
def Monitor.latch (m : Monitor) (f : Flag) : Monitor := { m with latched := m.latched ||| f.bit }.formAlert

/-- The live value of a condition flag as its owner reports it (R141). -/
def Monitor.setCondition (m : Monitor) (f : Flag) (v : Bool) : Monitor :=
  { m with conditions := if v then m.conditions ||| f.bit else m.conditions &&& ~~~f.bit }

/-- A new notice (R146), or the raise merged into the waiting one (R147). -/
def State.notify (s : State) (f : Flag) : Notice :=
  match s.link.urgent with
  | none =>
    { flags := f.bit, raiseCount := 1, engine := s.engine.state, day := s.calendar.day, minute := s.calendar.minute,
      clockSet := s.calendar.clockSet }
  | some n => { n with flags := n.flags ||| f.bit, raiseCount := satInc 255 n.raiseCount, engine := s.engine.state }

/-- A raise of a flag (R141, R144, R146). -/
def State.raise (s : State) (f : Flag) : State :=
  { s with
    monitor := s.monitor.latch f
    link := if f.urgent && !FlagSet.names s.monitor.mask f then { s.link with urgent := some (s.notify f) } else s.link }

/-- A raise made only where `b` holds. -/
def State.raiseIf (s : State) (b : Bool) (f : Flag) : State := if b then s.raise f else s

/-- The report of a condition by its owner: a change from false to true is a raise (R141). -/
def State.report (s : State) (f : Flag) (v : Bool) : State :=
  ({ s with monitor := s.monitor.setCondition f v }).raiseIf (v && !FlagSet.names s.monitor.conditions f) f

/-! ### The live conditions of the owners (section 9.2) -/

def LaneState.isLost : LaneState → Bool
  | .lost => true
  | .off | .seek | .up | .suspect | .test => false

def LaneState.isSuspect : LaneState → Bool
  | .suspect => true
  | .off | .seek | .up | .lost | .test => false

/-- EXPORT_WARN is true while the export check state is WARN or TRIP (R76). -/
def ExportState.warns : ExportState → Bool
  | .warn | .trip => true
  | .normal => false

/-- EXPORT_TRIP is true while the export check state is TRIP (R76). -/
def ExportState.trips : ExportState → Bool
  | .trip => true
  | .normal | .warn => false

def EngineState.isFailsafe : EngineState → Bool
  | .failsafe => true
  | .config | .metering => false

/-- The flag set of `f` where `b` holds, else the empty one. -/
def Flag.bitIf (f : Flag) (b : Bool) : FlagSet := if b then f.bit else 0

/-- The conditions of lane x and phase x (R18, R74). -/
def State.phaseConditions (s : State) (x : Phase) : FlagSet :=
  (Flag.laneLost x).bitIf (s.lanes.get x).state.isLost
    ||| (Flag.laneSuspect x).bitIf (s.lanes.get x).state.isSuspect
    ||| (Flag.vStuck x).bitIf (s.lanes.get x).voltage.stuck
    ||| (Flag.iStuck x).bitIf (s.lanes.get x).current.stuck
    ||| (Flag.lowVoltage x).bitIf (s.engine.lowVoltage.get x)

/-- The conditions of all owners as they stand. -/
def State.liveConditions (s : State) : FlagSet :=
  s.phaseConditions .a ||| s.phaseConditions .b ||| s.phaseConditions .c
    ||| Flag.unmetered.bitIf s.engine.unmetered
    ||| Flag.estimating.bitIf s.aligner.estimating
    ||| Flag.exportWarn.bitIf s.engine.exportState.warns
    ||| Flag.exportTrip.bitIf s.engine.exportState.trips
    ||| Flag.failsafe.bitIf s.engine.state.isFailsafe
    ||| Flag.clockNotSet.bitIf (!s.calendar.clockSet)

end Sys2Proof.Machine
end

