-- ==== Sys2Proof/Machine/Ops.lean ====
section
/-!
DEFINITION. The operations that several blocks share: reading the tables in use, changing a lane, evaluating the band in
force, and the responses of the link port.
-/

namespace Sys2Proof.Machine

/-! ### Tables in use -/

/-- A lane is enabled in the active METER table; none is before the first install (R20). -/
def State.enabled (s : State) (x : Phase) : Bool :=
  match s.tables.meterActive with
  | none => false
  | some m => m.lanes.testBit (phaseNumber x)

/-- STUCK_LIMIT of the active METER table; detection is off while none is active (R14). -/
def State.stuckLimit (s : State) : Nat :=
  match s.tables.meterActive with
  | none => 0
  | some m => m.stuckLimit

/-- DEMAND_MODE (section 8.2). -/
def demandModeOf (n : Nat) : DemandMode :=
  match n with
  | 0 => .aligned
  | 1 => .free
  | 2 => .oneShot
  | _ => .off

/-- DEMAND_MODE in use: OFF while no METER table is active (section 7.1). -/
def State.demandMode (s : State) : DemandMode :=
  match s.tables.meterActive with
  | none => .off
  | some m => demandModeOf m.demandMode

/-- DI of the active METER table. -/
def State.demandMinutes (s : State) : Nat :=
  match s.tables.meterActive with
  | none => 0
  | some m => m.di

/-- WATCHDOG of the active METER table; 0 stops the watchdog (R148). -/
def State.watchdogSeconds (s : State) : Nat :=
  match s.tables.meterActive with
  | none => 0
  | some m => m.watchdog

/-- The watchdog limit in strobes (R148). -/
def State.watchdogLimit (s : State) : Nat := s.watchdogSeconds * Config.strobesPerSecond

/-- Windows run: METERING or FAILSAFE (section 4.2). -/
def State.windowsRun (s : State) : Bool := decide (s.engine.state ≠ .config)

/-! ### Lanes -/

/-- The lane states that the aligner waits for (R24), in which the quality period runs (R13). -/
def LaneState.waited : LaneState → Bool
  | .seek | .up | .suspect => true
  | .off | .lost | .test => false

/-- The lane states whose data the aligner uses (R25). -/
def LaneState.used : LaneState → Bool
  | .up | .suspect => true
  | .off | .seek | .lost | .test => false

/-- The cycle memory is emptied and its run count set to 0 (R33). -/
def CycleMemory.empty (m : CycleMemory) : CycleMemory := { m with codes := [], runCount := 0 }

/-- The lane conditions of lane x as its state now gives them are reported (R18). -/
def State.reportLane (s : State) (x : Phase) : State :=
  let l := s.lanes.get x
  (((s.report (.laneLost x) l.state.isLost).report (.laneSuspect x) l.state.isSuspect).report
    (.vStuck x) l.voltage.stuck).report (.iStuck x) l.current.stuck

/-- A change of lane x: its phase's cycle memory is emptied when the lane leaves UP and SUSPECT or its voltage channel
becomes stuck (R33), and its conditions are reported (R18). -/
def State.changeLane (s : State) (x : Phase) (new : Lane) : State :=
  let old := s.lanes.get x
  let empties := (old.state.used && !new.state.used) || (!old.voltage.stuck && new.voltage.stuck)
  let s := { s with
    lanes := s.lanes.set x new
    aligner := if empties then { s.aligner with cycles := s.aligner.cycles.modify x CycleMemory.empty } else s.aligner }
  s.reportLane x

/-- The quality period restarts: position and errors 0 (R13). -/
def Lane.restartPeriod (l : Lane) : Lane := { l with periodPosition := 0, periodErrors := 0 }

/-- A stuck detector's history restarts (R14). -/
def Detector.restart (d : Detector) : Detector := { d with previous := none, equalRun := 0 }

/-- Both histories restart (R14). -/
def Lane.restartHistories (l : Lane) : Lane := { l with voltage := l.voltage.restart, current := l.current.restart }

/-- Both detectors restart with the stuck state cleared and the clearing progress zero (R20, R21). -/
def Lane.resetDetectors (l : Lane) : Lane := { l with voltage := detectorAtPowerOn, current := detectorAtPowerOn }

/-- Present, absent and sequence runs 0. -/
def Lane.clearRuns (l : Lane) : Lane := { l with presentRun := 0, absentRun := 0, sequenceRun := 0 }

/-- The lane enters SEEK with its runs at 0 and a new quality period (R10, R11, R12, R20). -/
def Lane.enterSeek (l : Lane) : Lane := { l with state := .seek }.clearRuns.restartPeriod

/-- The index that a TEST_EXIT carries: the latest issued strobe (R2); free before the first one (log 11). -/
def Aligner.latestIndex (al : Aligner) : StrobeIndex :=
  match al.latest with
  | some n => n
  | none => Config.strobeIndexBeforeFirst

/-- A frame is sent on the lane's down direction (R2). -/
def Lane.send (l : Lane) (f : DownFrame) : Lane := { l with down := l.down ++ [f] }

/-- A TEST_EXIT to a lane that leaves TEST (R2). -/
def Lane.sendTestExit (l : Lane) (x : Phase) (index : StrobeIndex) : Lane :=
  if l.state = .test then l.send { kind := .testExit, lane := x, index := index, data := 0 } else l

/-! ### Calendar: the band in force (R104, R110, R111) -/

/-- The weekday of a day under an offset (R104). -/
def weekdayOf (day offset : Nat) : Nat := (day + offset) % 7

/-- The special-day profile of a day, where the list has one (R110). -/
def specialProfile (days : List SpecialDay) (day : Nat) : Option Nat :=
  (days.find? (fun d => d.day == day)).map SpecialDay.profile

/-- Today's profile (R110). -/
def Calendar.todaysProfile (c : Calendar) (t : CalendarTable) : Nat :=
  match specialProfile c.specialDays c.day with
  | some p => p
  | none => t.week.getD (weekdayOf c.day t.offset) 0

/-- The used points of a profile, in index order (R104). -/
def CalendarTable.usedPoints (t : CalendarTable) (profile : Nat) : List SwitchPoint :=
  ((t.points.drop (12 * profile)).take 12).filter (fun p => p.minute != 0xFFFF)

/-- The band that a list of used points gives at a minute (R111). -/
def bandAt (used : List SwitchPoint) (minute : Nat) : Band :=
  match (used.filter (fun p => decide (p.minute ≤ minute))).getLast? with
  | some p => Fin.ofNat 8 p.band
  | none =>
    match used.getLast? with
    | some p => Fin.ofNat 8 p.band
    | none => 0

/-- The band and its source as an evaluation computes them (R110). -/
def State.bandNow (s : State) : Band × BandSource :=
  let byClock : Band × BandSource :=
    if s.calendar.clockSet then
      match s.tables.calendarActive with
      | none => (0, .noTable)
      | some t => (bandAt (t.usedPoints (s.calendar.todaysProfile t)) s.calendar.minute, .profile)
    else
      match s.tables.meterActive with
      | none => (0, .unset)
      | some m => (Fin.ofNat 8 m.unsetBand, .unset)
  match s.tables.meterActive with
  | some m => if s.engine.state = .failsafe ∧ m.failsafeBand ≠ 8 then (Fin.ofNat 8 m.failsafeBand, .failsafe) else byClock
  | none => byClock

/-- The band in force and its source are replaced by an evaluation's (R110). -/
def State.withBandNow (s : State) : State :=
  { s with calendar := { s.calendar with band := s.bandNow.1, source := s.bandNow.2 } }

/-- An evaluation of the band in force (R110, R112). A changed band posts BAND_CHANGED and, while windows run, makes a
SWITCH close request (R113). -/
def State.evaluate (s : State) : State :=
  if s.bandNow.1 = s.calendar.band then s.withBandNow
  else
    let s' := s.withBandNow
    { s' with
      aligner := { s.aligner with bandChanged := true }
      requests := if s.windowsRun then s.requests ++ [.switch] else s.requests }

/-- Pruning of the special-day list (R109). -/
def Calendar.prune (c : Calendar) : Calendar :=
  { c with specialDays := c.specialDays.dropWhile (fun d => decide (d.day < c.day)) }

/-! ### Responses -/

/-- A response joins the tail of the response queue (R157). -/
def State.respond (s : State) (code : Byte) (status : Status) (data : List Byte) : State :=
  { s with link := { s.link with responses := s.link.responses ++ [{ code := code, status := status, data := data }] } }

end Sys2Proof.Machine
end

