-- ==== Sys2Proof/Machine/LaneTestOps.lean ====
section
/-!
DEFINITION. The lane test checker: the pattern generator, the handling of TEST frames and missing indices, and the
timebase (sections 11.4, R178 to R181).
-/

namespace Sys2Proof.Machine

/-- The next bit of the pattern: the exclusive-or of the bits 14 and 15 places before it (R178). Bit 0 of the generator is
the latest bit. -/
def nextPatternBit (g : BitVec 15) : Bool := g.getLsbD 13 ^^ g.getLsbD 14

/-- The generator advanced by one bit (R178). -/
def advanceBit (g : BitVec 15) : BitVec 15 := (g <<< 1) ||| (BitVec.ofBool (nextPatternBit g)).setWidth 15

/-- The next `n` bits of the pattern shifted into `acc`, with the generator after them. -/
def nextBits : Nat → BitVec 15 → BitVec 48 → BitVec 15 × BitVec 48
  | 0, g, acc => (g, acc)
  | n + 1, g, acc => nextBits n (advanceBit g) ((acc <<< 1) ||| (BitVec.ofBool (nextPatternBit g)).setWidth 48)

/-- The generator after 48 bits and the 48 bits, the first one in bit 47; under FIXED the fixed word (R178). -/
def Checker.nextWord (c : Checker) : BitVec 15 × BitVec 48 :=
  match c.pattern with
  | .prbs15 => nextBits 48 c.generator 0
  | .fixed => (c.generator, c.fixedWord)

/-- The expected 48 bits (R178). -/
def Checker.expectedWord (c : Checker) : BitVec 48 := if c.invert then ~~~c.nextWord.2 else c.nextWord.2

/-- The generator advanced by 48 bits and the expected index by one (R179). -/
def Checker.advance (c : Checker) : Checker :=
  { c with generator := c.nextWord.1, expected := c.expected.map (· + 1) }

/-- A frame is made the seed frame (R178). -/
def Checker.seed (c : Checker) (index : StrobeIndex) (data : BitVec 48) : Checker :=
  let bits := if c.invert then ~~~data else data
  { c with
    generator := match c.pattern with
      | .prbs15 => bits.setWidth 15
      | .fixed => c.generator
    expected := some (index + 1) }

/-- The number of set bits among the lowest `n`. -/
def countBits : Nat → BitVec 48 → Nat
  | 0, _ => 0
  | n + 1, w => (if w.getLsbD n then 1 else 0) + countBits n w

/-- Top of the 40-bit error counts (section 11.4). -/
def top40 : Nat := 1099511627775

/-- The error limit m × 4^e of a limit code (R181). -/
def limitOf (code : Byte) : Nat := (code.toNat / 8) * 4 ^ (code.toNat % 8)

/-- The number of strobes of a timebase; CONTINUOUS never ends (R177, R181). -/
def Timebase.length : Timebase → Option Nat
  | .continuous => none
  | .pow16 => some 65536
  | .pow20 => some 1048576
  | .pow24 => some 16777216

/-- Wrong bits join the running count (R179, R180). -/
def Checker.addErrors (c : Checker) (wrong : Nat) : Checker := { c with running := min (c.running + wrong) top40 }

/-- A bad frame or a good one in SYNCED moves the bad run; four bad frames lose sync unless the sync mask is set (R180). -/
def Checker.judge (c : Checker) (bad : Bool) : Checker :=
  if bad then
    let c := { c with badRun := satInc 4 c.badRun }
    if c.badRun = 4 ∧ c.syncMask = false then
      { c with state := .seeding, expected := none, syncLosses := satInc top16 c.syncLosses }
    else c
  else { c with badRun := 0 }

/-- The expected index is taken as missing (R179). -/
def Checker.missing (c : Checker) : Checker :=
  match c.state with
  | .synced => ((c.advance).addErrors 48).judge true
  | .hunting => { c.advance with goodRun := 0 }
  | .idle | .seeding => c

/-- A frame with the expected index is checked (R179, R180). -/
def Checker.check (c : Checker) (index : StrobeIndex) (data : BitVec 48) : Checker :=
  let wrong := countBits 48 (data ^^^ c.expectedWord)
  match c.state with
  | .hunting =>
    if wrong = 0 then
      let c := { c.advance with goodRun := c.goodRun + 1 }
      if c.goodRun = 4 then { c with state := .synced, goodRun := 0, badRun := 0 } else c
    else { c.advance.seed index data with goodRun := 0 }
  | .synced => ((c.advance).addErrors wrong).judge (decide (12 ≤ wrong))
  | .idle | .seeding => c

/-- How many indices from the expected one on have their deadline behind them when `latest` is the latest issued strobe: the
strobe two after each of them is no longer to come. There are none where the expected index is one of the two latest, the next
strobe's, or the one after it, which follows a seed frame numbered one strobe ahead (R178, R179, log 30). -/
def Checker.overdue (c : Checker) (latest : Option StrobeIndex) : Nat :=
  match latest, c.expected with
  | some n, some e => if n + 1 = e ∨ n + 2 = e then 0 else (n - e).toNat - 1
  | _, _ => 0

/-- The seed frame in SEEDING (R179). The indices after it whose deadline is past are taken as missing, so that a front-end out
of step with the strobes by two or more, either way, meets only deadlines (log 30). -/
def Checker.seedFrame (c : Checker) (latest : Option StrobeIndex) (index : StrobeIndex) (data : BitVec 48) : Checker :=
  let c := { c.seed index data with state := .hunting, goodRun := 0, badRun := 0, timebaseBegun := true }
  (Checker.missing^[c.overdue latest]) c

/-- A frame after the missing indices before it: checked in HUNTING and SYNCED; where they have lost sync, the frame is the
next TEST frame and seeds (R179, R180, log 24). -/
def Checker.checkOrSeed (c : Checker) (latest : Option StrobeIndex) (index : StrobeIndex) (data : BitVec 48) : Checker :=
  match c.state with
  | .seeding => c.seedFrame latest index data
  | .hunting | .synced => c.check index data
  | .idle => c

/-- A TEST frame passed to the checker, where `latest` is the latest issued strobe (R179). A front-end that numbers its frames one
strobe ahead or behind meets g = 0 after its seed (R178), and the table of R179 is followed: its frames are checked (DEDUCED,
log 30). -/
def Checker.frame (c : Checker) (latest : Option StrobeIndex) (index : StrobeIndex) (data : BitVec 48) : Checker :=
  match c.state, c.expected with
  | .idle, _ => c
  | .seeding, _ => c.seedFrame latest index data
  | _, none => c
  | _, some e =>
    match (index - e).toNat with
    | 0 => c.check index data
    | 1 => c.missing.checkOrSeed latest index data
    | 2 => c.missing.missing.checkOrSeed latest index data
    | _ => c

/-- A strobe at a lane in TEST: the strobe two after the expected index makes that index missing (R179), and the timebase
counts the strobe (R181, log 24). -/
def Checker.strobe (c : Checker) (index : StrobeIndex) : Checker :=
  let c := if c.expected = some (index - 2) then c.missing else c
  if c.timebaseBegun then { c with timebaseCount := satInc 16777216 c.timebaseCount } else c

/-- Under CONTINUOUS the test fails when the running count comes to exceed the limit (R181). -/
def Checker.failsRunning (c : Checker) : Bool :=
  decide (c.timebase = .continuous) && !c.failMark && decide (limitOf c.limitCode < c.running)

/-- A changed checker context, with the failure that its running count may give (R181). -/
def State.changeChecker (s : State) (x : Phase) (c : Checker) : State :=
  if c.failsRunning then
    ({ s with checkers := s.checkers.set x { c with failMark := true } }).raise (.linkTestFail x)
  else { s with checkers := s.checkers.set x c }

/-- The timebase of lane x has ended and the step TIMEBASE_END is due (R181). -/
def State.timebaseDue (s : State) (x : Phase) : Bool :=
  match (s.checkers.get x).timebase.length with
  | none => false
  | some n => decide (n ≤ (s.checkers.get x).timebaseCount)

/-- The end of a timebase (R181). -/
def State.endTimebase (s : State) (x : Phase) : State :=
  let c := s.checkers.get x
  let latched := { c with lastResult := c.running, resultValid := true, running := 0, timebaseCount := 0 }
  if !c.failMark && decide (limitOf c.limitCode < c.running) then
    ({ s with checkers := s.checkers.set x { latched with failMark := true } }).raise (.linkTestFail x)
  else { s with checkers := s.checkers.set x latched }

/-- The context of a lane that leaves TEST enters IDLE and keeps its values (R182). -/
def Checker.toIdle (c : Checker) : Checker := { c with state := .idle }

/-- The context of lane x enters IDLE where the lane is in TEST (R182). -/
def State.endLaneTest (s : State) (x : Phase) : State :=
  if (s.lanes.get x).state = .test then { s with checkers := s.checkers.modify x Checker.toIdle } else s

end Sys2Proof.Machine
end

