-- ==== Sys2Proof/Machine/LaneOps.lean ====
section
/-!
DEFINITION. The lane receiver: stuck detection and the judging of an arriving frame (chapter 1).
-/

namespace Sys2Proof.Machine

/-! ### Stuck detection (R14, R15) -/

/-- The clearing of a stuck channel by one fed frame (R15). -/
def Detector.clearStep (d : Detector) (differs : Bool) : Detector :=
  let d := { d with blockPosition := d.blockPosition + 1, changeSeen := d.changeSeen || differs }
  if d.blockPosition = 64 then
    let good := if d.changeSeen then d.goodBlocks + 1 else 0
    let d := { d with blockPosition := 0, changeSeen := false, goodBlocks := good }
    if good = 4 then { d with stuck := false, equalRun := 0, goodBlocks := 0 } else d
  else d

/-- One code is fed to a detector under a STUCK_LIMIT that is not 0 (R14, R15). -/
def Detector.feed (d : Detector) (limit : Nat) (code : Int) : Detector :=
  let differs := match d.previous with
    | none => false
    | some p => decide (p ≠ code)
  let run := if d.previous = some code then satInc 4000 d.equalRun else 0
  let fed := { d with previous := some code, equalRun := run }
  if d.stuck then fed.clearStep differs
  else if limit ≤ run then { fed with stuck := true, blockPosition := 0, changeSeen := false, goodBlocks := 0 }
  else fed

/-- The feeds of an accepted frame: a channel under its fault mark is not fed (R14), the current not while the phase's
LOW_VOLTAGE holds (R16), and nothing while STUCK_LIMIT is 0. -/
def Lane.feed (l : Lane) (limit : Nat) (lowVoltage : Bool) (f : SampleFrame) : Lane :=
  if limit = 0 then l
  else
    { l with
      voltage := if f.vFault then l.voltage else l.voltage.feed limit f.v
      current := if f.iFault || lowVoltage then l.current else l.current.feed limit f.i }

/-! ### Errors -/

/-- A CRC error (R3). -/
def Lane.crcError (l : Lane) : Lane :=
  { l with
    counters := { l.counters with crcErrors := satInc top32 l.counters.crcErrors }
    periodErrors := if l.state.waited then satInc top16 l.periodErrors else l.periodErrors }

/-- A frame is counted late and discarded (R4, R12). -/
def Lane.countLate (l : Lane) : Lane := { l with counters := { l.counters with late := satInc top32 l.counters.late } }

/-- A lane resync (R6). -/
def Lane.resync (l : Lane) : Lane :=
  ({ l with
    queue := [], state := .seek, presentRun := 0, sequenceRun := 0,
    counters := { l.counters with resyncs := satInc top32 l.counters.resyncs } }).restartPeriod.restartHistories

/-- The counts of a sequence error before any resync (R3, R6). -/
def Lane.countSequenceError (l : Lane) : Lane :=
  let l := { l with counters := { l.counters with sequenceErrors := satInc top32 l.counters.sequenceErrors } }
  if l.state.waited then { l with periodErrors := satInc top16 l.periodErrors, sequenceRun := l.sequenceRun + 1 } else l

/-- The sequence run has reached four in a state in which the lane resyncs (R6). -/
def Lane.resyncDue (l : Lane) : Bool := l.state.waited && decide (4 ≤ l.sequenceRun)

/-- A sequence error of lane x (R3, R4, R6). -/
def State.sequenceError (s : State) (x : Phase) : State :=
  let l := (s.lanes.get x).countSequenceError
  if l.resyncDue then (s.changeLane x l.resync).raise (.laneResync x) else s.changeLane x l

/-! ### Acceptance (R4, R5, R7, R10, R11) -/

/-- The clamp of a 24-bit field to the raw code range (R7). -/
def clampCode (x : Int) : Int := max (-524288) (min 524287 x)

/-- The frame as the lane queue keeps it: clamped codes, and the overrange marks that the clamp sets (R5, R7). -/
def clampFrame (f : UpLaneFrame) : SampleFrame :=
  { index := f.index, v := clampCode f.v, i := clampCode f.i, vOvr := f.vOvr || decide (clampCode f.v ≠ f.v),
    iOvr := f.iOvr || decide (clampCode f.i ≠ f.i), vFault := f.vFault, iFault := f.iFault, restart := f.restart }

/-- A frame joins the lane queue in ascending order of strobe index taken from the oldest open index (R5). -/
def insertFrame (oldest : StrobeIndex) (f : SampleFrame) : List SampleFrame → List SampleFrame
  | [] => [f]
  | g :: rest =>
    if (f.index - oldest).toNat < (g.index - oldest).toNat then f :: g :: rest else g :: insertFrame oldest f rest

/-- The counts of an accepted frame (R4, R7, R11). -/
def Lane.countAccepted (l : Lane) (f : SampleFrame) : Lane :=
  { l with
    sequenceRun := 0
    counters := { l.counters with
      accepted := satInc top32 l.counters.accepted
      overrange := if f.vOvr || f.iOvr then satInc top32 l.counters.overrange else l.counters.overrange
      restarts := if f.restart then satInc top32 l.counters.restarts else l.counters.restarts } }

/-- The effect of acceptance on the lane state and of a RESTART mark (R10, R11). -/
def Lane.acceptState (l : Lane) (restart : Bool) : Lane :=
  match l.state with
  | .lost => if restart then l.enterSeek.restartHistories else l.enterSeek
  | .up | .suspect => if restart then { l with queue := [] }.enterSeek.restartHistories else l
  | .seek => if restart then { l with presentRun := 0 }.restartHistories else l
  | .off | .test => l

/-- The lane after an accepted frame: counts, state, detectors, queue (R4, R5, R7, R10, R11, R14, log 13). -/
def Lane.accept (l : Lane) (oldest : StrobeIndex) (limit : Nat) (lowVoltage : Bool) (f : SampleFrame) : Lane :=
  let l := ((l.countAccepted f).acceptState f.restart).feed limit lowVoltage f
  { l with queue := insertFrame oldest f l.queue }

/-- The index of the oldest unreleased set; the index of the next strobe while the open range is empty (R4, R23). -/
def Aligner.oldest (al : Aligner) : StrobeIndex := al.openRange.headD al.nextIndex

/-- A strobe index lies in the open range: d ≤ w of R4. -/
def Aligner.inRange (al : Aligner) (index : StrobeIndex) : Bool :=
  match al.openRange.getLast? with
  | none => false
  | some newest => decide ((index - al.oldest).toNat ≤ (newest - al.oldest).toNat)

/-- A SAMPLE frame in SEEK, UP, SUSPECT or LOST is judged by its strobe index (R4). -/
def State.judgeSample (s : State) (x : Phase) (f : SampleFrame) : State :=
  let l := s.lanes.get x
  if s.aligner.inRange f.index then
    if l.queue.any (fun g => g.index == f.index) then s.sequenceError x
    else
      ((s.changeLane x (l.accept s.aligner.oldest s.stuckLimit (s.engine.lowVoltage.get x) f)).raiseIf
        (f.vOvr || f.iOvr) (.overrange x)).raiseIf f.restart (.feRestart x)
  else if 4088 ≤ (f.index - s.aligner.oldest).toNat then s.changeLane x l.countLate
  else s.sequenceError x

/-- The identity and strobe index steps of R3, for a frame whose integrity holds. -/
def State.judgeFrame (s : State) (x : Phase) (f : UpLaneFrame) : State :=
  let l := s.lanes.get x
  if f.lane ≠ laneId x ∨ (f.kind ≠ 4 ∧ f.kind ≠ 5) then s.sequenceError x
  else if f.kind = 5 then
    if l.state = .test then s.changeChecker x ((s.checkers.get x).frame s.aligner.latest f.index f.data) else s.sequenceError x
  else if l.state = .test then s.changeLane x l.countLate
  else s.judgeSample x (clampFrame f)

/-- Lane receiver x ends an up-direction frame and judges it (R3). -/
def State.receiveFrame (s : State) (x : Phase) (f : LineFrame) : State :=
  let l := s.lanes.get x
  if l.state = .off then s
  else
    match parseLaneFrame f with
    | none => s.changeLane x l.crcError
    | some g => s.judgeFrame x g

/-! ### Counts after a release (R8, R9, R13) -/

/-- The entry of set n that the lane hands over, if it holds one (R8). -/
def Lane.handOver (l : Lane) (n : StrobeIndex) : Option SampleFrame :=
  match l.state with
  | .off | .test => none
  | .seek | .up | .suspect | .lost => l.queue.find? (fun f => f.index == n)

/-- The entry of set n leaves the queue (R5). -/
def Lane.dropEntry (l : Lane) (n : StrobeIndex) : Lane := { l with queue := l.queue.filter (fun f => f.index != n) }

/-- The present and absent runs at a release, with the entry to UP and to LOST that they bring (R9); in LOST the sequence run
is held at 0 (R6). -/
def Lane.countRuns (l : Lane) (held : Bool) : Lane :=
  if held then
    let l := { l with absentRun := 0 }
    if l.state = .seek then
      if l.presentRun + 1 = 16 then { l with state := .up, presentRun := 0 } else { l with presentRun := l.presentRun + 1 }
    else l
  else
    let l := if l.state = .seek then { l with presentRun := 0 } else l
    if l.absentRun + 1 = 8 then
      ({ l with
        state := .lost, queue := [], absentRun := 0, sequenceRun := 0,
        counters := { l.counters with lost := satInc top32 l.counters.lost } }).restartHistories
    else { l with absentRun := l.absentRun + 1 }

/-- The released set is counted in the quality period, which runs in SEEK, UP and SUSPECT (R13, log 12). -/
def Lane.countRelease (l : Lane) : Lane :=
  if l.state.waited then { l with periodPosition := l.periodPosition + 1 } else l

/-- A lane after the hand-over of set n (R8). -/
def Lane.afterRelease (l : Lane) (n : StrobeIndex) : Lane :=
  let held := (l.handOver n).isSome
  match l.state with
  | .off | .test => l
  | .lost => { l.dropEntry n with absentRun := 0 }
  | .seek | .up | .suspect => ((l.dropEntry n).countRuns held).countRelease

/-- The quality period of lane x has ended and the step QUALITY_PERIOD_END is due (R13). -/
def Lane.periodDue (l : Lane) : Bool := l.state.waited && decide (Config.qualityPeriod ≤ l.periodPosition)

/-- The judgement of a quality period under Q_ASSERT and Q_CLEAR (R13). -/
def Lane.judgePeriod (l : Lane) (m : Option Meter) : LaneState :=
  match l.state, m with
  | .up, some m => if m.qAssert ≤ l.periodErrors then .suspect else .up
  | .suspect, some m => if l.periodErrors ≤ m.qClear then .up else .suspect
  | st, _ => st

/-- The end of the quality period of lane x (R13). -/
def State.endPeriod (s : State) (x : Phase) : State :=
  let l := s.lanes.get x
  s.changeLane x
    { l with
      state := l.judgePeriod s.tables.meterActive
      lastPeriodErrors := l.periodErrors
      periodPosition := 0
      periodErrors := 0 }

end Sys2Proof.Machine
end

