-- ==== Sys2Proof/Machine/AlignerOps.lean ====
section
/-!
DEFINITION. The aligner: the release of a set, its classification, substitution and status word (chapter 2).
-/

namespace Sys2Proof.Machine

/-! ### The set status word (R168) -/

/-- Bit `i` of the status word where `b` holds. -/
def statusBit (i : Nat) (b : Bool) : StatusWord := if b then 1#16 <<< i else 0

def presentBit (x : Phase) : Nat := phaseNumber x
def estimatedBit (x : Phase) : Nat := 3 + phaseNumber x
def exportingBit (x : Phase) : Nat := 6 + phaseNumber x
def windowClosedBit : Nat := 9
def bandChangedBit : Nat := 10
def holdBit : Nat := 11
def suspectAnyBit : Nat := 12
def overrangeAnyBit : Nat := 13
def directionReversedBit : Nat := 14
def meteringBit : Nat := 15

/-! ### When a release is due (R24) -/

/-- A lane that is waited for holds the frame of set n. -/
def Lane.readyFor (l : Lane) (n : StrobeIndex) : Bool := !l.state.waited || l.queue.any (fun f => f.index == n)

/-- The release of the oldest open set is due: complete, or at its deadline (R24). -/
def State.releaseDue (s : State) : Bool :=
  match s.aligner.openRange with
  | [] => false
  | n :: _ =>
    ((s.lanes.get .a).readyFor n && (s.lanes.get .b).readyFor n && (s.lanes.get .c).readyFor n)
      || s.aligner.openRange.contains (n + 2)

/-! ### Classification (R25) -/

/-- What a lane hands over at a release (R8). -/
structure HandOver where
  state  : LaneState
  frame  : Option SampleFrame
  vStuck : Bool
  iStuck : Bool

def Lane.handsOver (l : Lane) (n : StrobeIndex) : HandOver :=
  { state := l.state, frame := l.handOver n, vStuck := l.voltage.stuck, iStuck := l.current.stuck }

/-- The absence causes of R25, in the order in which they are tested. -/
inductive Absence
  | notUsable | missedDeadline | stuck | frontEndFault
  deriving DecidableEq, Repr

/-- The frame of a usable lane, or why its channels are absent: the first two tests of R25. -/
def HandOver.usableFrame (h : HandOver) : Except Absence SampleFrame :=
  if h.state.used then
    match h.frame with
    | some f => .ok f
    | none => .error .missedDeadline
  else .error .notUsable

/-- The voltage code, or the absence cause (R25). -/
def HandOver.voltage (h : HandOver) : Except Absence Int :=
  match h.usableFrame with
  | .error e => .error e
  | .ok f => if h.vStuck then .error .stuck else if f.vFault then .error .frontEndFault else .ok f.v

/-- The current code, where the current is present (R25). -/
def HandOver.current (h : HandOver) : Option Int :=
  match h.usableFrame with
  | .error _ => none
  | .ok f => if h.iStuck || f.iFault then none else some f.i

/-! ### Substitution (R29 to R34) -/

/-- The substitution policies; PHASE_ONLY while no METER table is active (section 2.5). -/
inductive Policy
  | holdAll | phaseOnly | estimate
  deriving DecidableEq, Repr

def policyOf (m : Option Meter) : Policy :=
  match m with
  | none => .phaseOnly
  | some m =>
    match m.subst with
    | 0 => .holdAll
    | 1 => .phaseOnly
    | _ => .estimate

/-- A code is pushed as the newest; a full memory loses its oldest (R32). -/
def pushCode (cycleLen : Nat) (codes : List Int) (code : Int) : List Int :=
  if codes.length < cycleLen then codes ++ [code] else codes.drop 1 ++ [code]

/-- A phase at a release: its channels in the set, and its cycle memory after it (R25, R31, R32, R34). -/
def classify (meter : Option Meter) (h : HandOver) (m : CycleMemory) : SetPhase × CycleMemory :=
  let cycleLen := match meter with
    | none => 0
    | some t => t.cycleLen
  let substMax := match meter with
    | none => 0
    | some t => t.substMax
  match h.voltage with
  | .ok v => ({ voltage := .present v, current := h.current }, { m with codes := pushCode cycleLen m.codes v, runCount := 0 })
  | .error cause =>
    let full := decide (m.codes.length = cycleLen)
    match m.codes with
    | oldest :: _ =>
      if policyOf meter = .estimate ∧ cause = .frontEndFault ∧ h.current.isSome = true ∧ full = true ∧ m.runCount < substMax
      then
        ({ voltage := .estimated oldest, current := h.current },
          { codes := pushCode cycleLen m.codes oldest, runCount := m.runCount + 1, estimated := satInc top32 m.estimated })
      else ({ voltage := .absent, current := h.current }, m)
    | [] => ({ voltage := .absent, current := h.current }, m)

def SetPhase.isPresent (p : SetPhase) : Bool :=
  match p.voltage with
  | .present _ => p.current.isSome
  | .absent | .estimated _ => false

def SetPhase.isEstimated (p : SetPhase) : Bool :=
  match p.voltage with
  | .estimated _ => p.current.isSome
  | .absent | .present _ => false

/-- A HOLD set: HOLD_ALL, and an enabled lane's phase that is not PRESENT (R29). -/
def State.isHold (s : State) (p : PerPhase SetPhase) : Bool :=
  decide (policyOf s.tables.meterActive = .holdAll)
    && ((s.enabled .a && !p.a.isPresent) || (s.enabled .b && !p.b.isPresent) || (s.enabled .c && !p.c.isPresent))

/-- A lane in UP or SUSPECT handed over an overranged frame (R27). -/
def HandOver.overranged (h : HandOver) : Bool :=
  h.state.used && (match h.frame with
    | some f => f.vOvr || f.iOvr
    | none => false)

/-- The status word at release; the EXPORTING marks are clear (R27). -/
def State.statusAtRelease (s : State) (h : PerPhase HandOver) (p : PerPhase SetPhase) : StatusWord :=
  statusBit 0 p.a.isPresent ||| statusBit 1 p.b.isPresent ||| statusBit 2 p.c.isPresent
    ||| statusBit 3 p.a.isEstimated ||| statusBit 4 p.b.isEstimated ||| statusBit 5 p.c.isEstimated
    ||| statusBit windowClosedBit s.aligner.windowClosed
    ||| statusBit bandChangedBit s.aligner.bandChanged
    ||| statusBit holdBit (s.isHold p)
    ||| statusBit suspectAnyBit
          (decide (h.a.state = .suspect) || decide (h.b.state = .suspect) || decide (h.c.state = .suspect))
    ||| statusBit overrangeAnyBit (h.a.overranged || h.b.overranged || h.c.overranged)
    ||| statusBit directionReversedBit s.aligner.directionReversed
    ||| statusBit meteringBit s.windowsRun

/-! ### The release -/

/-- The release of set n (R24 to R35): the set record is formed and handed on, the pending marks are taken into it, the
memories are pushed, ESTIMATING is reported, and then each lane updates its running counts (R8). -/
def State.releaseSet (s : State) (n : StrobeIndex) (rest : List StrobeIndex) : State :=
  let h : PerPhase HandOver := s.lanes.map (fun l => l.handsOver n)
  let r := PerPhase.zip (classify s.tables.meterActive) h s.aligner.cycles
  let p : PerPhase SetPhase := r.map Prod.fst
  let record : SetRecord :=
    { index := n, status := s.statusAtRelease h p, phases := p, forNetting := s.windowsRun }
  let estimating := p.a.isEstimated || p.b.isEstimated || p.c.isEstimated
  let s := { s with
    aligner := { s.aligner with
      openRange := rest, windowClosed := false, bandChanged := false, directionReversed := false,
      cycles := r.map Prod.snd, estimating := estimating }
    released := s.released ++ [record] }
  let s := s.report .estimating estimating
  let s := s.changeLane .a ((s.lanes.get .a).afterRelease n)
  let s := s.changeLane .b ((s.lanes.get .b).afterRelease n)
  s.changeLane .c ((s.lanes.get .c).afterRelease n)

/-- The oldest open set is released where its release is due (R24). -/
def State.releaseIfDue (s : State) : State :=
  if s.releaseDue then
    match s.aligner.openRange with
    | [] => s
    | n :: rest => s.releaseSet n rest
  else s

/-! ### The strobe (R22) -/

/-- The down frame of a strobe: every lane not OFF is sent one (R2). The down direction now holds the frames of the new
strobe period (log 10). -/
def Lane.strobe (l : Lane) (x : Phase) (n : StrobeIndex) : Lane :=
  { l with down := if l.state = .off then [] else [{ kind := .strobe, lane := x, index := n, data := 0 }] }

/-- The watchdog counts a strobe while it runs; the count at its limit or above makes the step WATCHDOG_EXPIRY due
(R148). -/
def Monitor.countStrobe (m : Monitor) (limit : Nat) : Monitor :=
  if m.watchdogRunning then
    { m with watchdogCount := m.watchdogCount + 1, expired := m.expired || decide (limit ≤ m.watchdogCount + 1) }
  else m

/-- A strobe at the checker of lane x, which acts while the lane is in TEST (R179, R181). -/
def State.strobeChecker (s : State) (x : Phase) (n : StrobeIndex) : State :=
  if (s.lanes.get x).state = .test then s.changeChecker x ((s.checkers.get x).strobe n) else s

/-- The aligner issues a strobe (R22): the down frames, the open range, the calendar's count (R98), the watchdog's (R148)
and the test checker's (R179, R181). -/
def State.issueStrobe (s : State) : State :=
  let n := s.aligner.nextIndex
  let s := { s with
    lanes := ⟨s.lanes.a.strobe .a n, s.lanes.b.strobe .b n, s.lanes.c.strobe .c n⟩
    aligner := { s.aligner with
      nextIndex := n + 1, openRange := s.aligner.openRange ++ [n], latest := some n }
    calendar := { s.calendar with strobeCount := s.calendar.strobeCount + 1 }
    monitor := s.monitor.countStrobe s.watchdogLimit }
  ((s.strobeChecker .a n).strobeChecker .b n).strobeChecker .c n

end Sys2Proof.Machine
end

