-- ==== Sys2Proof/Machine/ArithmeticOps.lean ====
section
/-!
DEFINITION. The arithmetic unit (chapter 3), and the capture unit's taking of a completed set (sections 11.1, 11.2).
-/

namespace Sys2Proof.Machine

/-! ### Rounding, saturation, calibration, compensation -/

/-- round(x / 2^k) of R40: the nearest integer, a tie toward +∞. -/
def roundShift (k : Nat) (x : Int) : Int := (x + 2 ^ (k - 1)) / 2 ^ k

/-- sat(y) of R41. -/
def saturate (y : Int) : Int := max (-524287) (min 524287 y)

/-- A raw code under an offset and a gain (R42, R43). -/
def calibrate (raw ofs : Int) (gain : Nat) : Int := saturate (roundShift 15 ((raw - ofs) * gain))

/-- The calibrated current after POLARITY (R43, R44). -/
def calibrateCurrent (e : CalEntry) (raw : Int) : Int :=
  let y := calibrate raw e.iOfs e.iGain
  if e.polarity = 1 then -y else y

/-- The compensated current: `previous` is the history, which counts as the present current where it is none (R45). -/
def compensate (delay : Nat) (previous : Option Int) (now : Int) : Int :=
  roundShift 8 (256 * now + delay * (previous.getD now - now))

/-- One phase of a completed set (R42 to R48, R50). -/
def completePhase (e : CalEntry) (history : Option Int) (p : SetPhase) : CompletedPhase :=
  let v := p.voltage.map (fun raw => calibrate raw e.vOfs e.vGain)
  let i := p.current.map (fun raw => compensate e.delay history (calibrateCurrent e raw))
  { voltage := v
    current := i
    power := match v.code, i with
      | some v, some i => some (v * i)
      | _, _ => none
    square := v.code.map (fun v => v * v) }

/-- The CAL entries in use: unity while no CAL table is active (R39). -/
def State.calInUse (s : State) : PerPhase CalEntry :=
  match s.tables.calActive with
  | none => .all calUnity
  | some t => t

/-- EXPORTING_x: the phase has a power below zero (R49). -/
def CompletedPhase.isExporting (p : CompletedPhase) : Bool :=
  match p.power with
  | none => false
  | some w => decide (w < 0)

/-- The completed set of a record (R38, R49, R50). -/
def State.completeSet (s : State) (r : SetRecord) : CompletedSet :=
  let cal := s.calInUse
  let p : PerPhase CompletedPhase :=
    ⟨completePhase cal.a s.history.a r.phases.a, completePhase cal.b s.history.b r.phases.b,
     completePhase cal.c s.history.c r.phases.c⟩
  { index := r.index
    status := r.status ||| statusBit 6 p.a.isExporting ||| statusBit 7 p.b.isExporting ||| statusBit 8 p.c.isExporting
    phases := p }

/-- The histories after a set: the calibrated current, or none where the current is absent (R46). -/
def State.historyAfter (s : State) (r : SetRecord) : PerPhase (Option Int) :=
  PerPhase.zip (fun e p => (SetPhase.current p).map (calibrateCurrent e)) s.calInUse r.phases

/-! ### Capture (R172 to R174) -/

/-- A TRIGGER entry matches a status word (R172). -/
def TriggerEntry.matches (e : TriggerEntry) (w : StatusWord) : Bool :=
  e.enabled && decide ((w ^^^ e.value) &&& ~~~e.mask = 0#16)

/-- The lowest-numbered entry that matches, counted from `i` (R172). -/
def firstMatch (w : StatusWord) : Nat → List TriggerEntry → Option Nat
  | _, [] => none
  | i, e :: rest => if e.matches w then some i else firstMatch w (i + 1) rest

/-- The capture record of a set; ESTIMATED_x of its status word shows an estimated voltage (R174). -/
def captureRecordOf (c : CompletedSet) : CaptureRecord :=
  { index := c.index, status := c.status, voltage := c.phases.map (fun p => p.voltage.code),
    current := c.phases.map CompletedPhase.current }

/-- A forwarded record joins the capture queue, or is dropped with CAPTURE_OVERRUN (R174). -/
def State.forward (s : State) (c : CompletedSet) : State :=
  if s.capture.queue.length < Config.captureDepth then
    { s with capture := { s.capture with queue := s.capture.queue ++ [captureRecordOf c] } }
  else
    ({ s with capture := { s.capture with overrun := satInc top32 s.capture.overrun } }).raise .captureOverrun

/-- The counts of a set taken in RUNNING (R173). -/
def Capture.count (u : Capture) : Capture :=
  let u := if u.decimationCount = 0 ∧ u.mode ≠ .stream then { u with current := u.current - 1 } else u
  { u with decimationCount := if u.decimationCount + 1 = u.decimation then 0 else u.decimationCount + 1 }

/-- A set taken in RUNNING (R173); the first set after CAPTURE TRIGGER has its index recorded (R172). -/
def State.captureRunning (s : State) (c : CompletedSet) : State :=
  let s := if s.capture.sourceIndex = none then { s with capture := { s.capture with sourceIndex := some c.index } } else s
  let s := if s.capture.decimationCount = 0 then s.forward c else s
  { s with capture := s.capture.count }

/-- The capture unit takes a completed set (R172, R173). -/
def State.captureSet (s : State) (c : CompletedSet) : State :=
  match s.capture.state with
  | .idle => s
  | .armed =>
    match firstMatch c.status 0 s.tables.trigger with
    | none => s
    | some i =>
      ({ s with capture :=
        { s.capture with
          state := .running, source := .entry (Fin.ofNat 4 i), sourceIndex := some c.index,
          decimationCount := 0 } }).captureRunning c
  | .running => s.captureRunning c

/-- The block count has reached 0 and the step CAPTURE_TERMINAL_COUNT is due (R173). -/
def Capture.terminalDue (u : Capture) : Bool :=
  decide (u.state = .running) && decide (u.mode ≠ .stream) && decide (u.current = 0)

/-- Terminal count of the block (R173). -/
def Capture.terminal (u : Capture) : Capture :=
  match u.mode with
  | .once => { u with state := .idle }
  | .rearm => { u with state := .armed, current := u.base, source := .none, sourceIndex := none }
  | .stream => u

/-- The arithmetic unit takes a set record (R38): the completed set goes to the capture unit, and to the netting engine
where its METERING mark is set (R26). -/
def State.takeRecord (s : State) (r : SetRecord) : State :=
  let c := s.completeSet r
  let s := { s with
    history := s.historyAfter r
    completed := if r.forNetting && r.status.getLsbD meteringBit then s.completed ++ [c] else s.completed }
  s.captureSet c

/-- The arithmetic unit takes the oldest released set (R38). -/
def State.takeReleased (s : State) : State :=
  match s.released with
  | [] => s
  | r :: rest => ({ s with released := rest }).takeRecord r

end Sys2Proof.Machine
end

