-- ==== Sys2Proof/Machine/BankOps.lean ====
section
/-!
DEFINITION. The register bank: the credit step of a window result and the normalisation of residues (chapter 5).
-/

namespace Sys2Proof.Machine

/-- One chain of the bank, a residue and the register it feeds, takes `share` p-units under the quantum `q`: the new
residue, the new register, the quanta credited, and whether the register wrapped (R83, R84). -/
structure ChainStep where
  residue  : Nat
  register : Nat
  quanta   : Nat
  wraps    : Bool
  deriving DecidableEq, Repr

/-- The step of one chain (R83, R84, R86, R88). -/
def chainStep (q residue register share : Nat) : ChainStep :=
  let total := residue + share
  { residue := total % q
    register := (register + total / q) % Config.registerModulus
    quanta := total / q
    wraps := decide (Config.registerModulus ≤ register + total / q) }

/-- Both band chains and the six gross chains take their shares under `q`, the band quanta going to band `b`
(R82 to R86, and with shares of zero R88). The result: the accounts, the band quanta, and whether any register wrapped. -/
def Accounts.creditAll (acc : Accounts) (q : Nat) (b : Band) (shares : Flows) (grossShares : PerPhase Flows) :
    Accounts × Flows × Bool :=
  let i := chainStep q acc.residue.imp (acc.bandImp.get b) shares.imp
  let e := chainStep q acc.residue.exp (acc.bandExp.get b) shares.exp
  let gi (x : Phase) := chainStep q (acc.grossResidue.get x).imp (acc.gross.get x).imp (grossShares.get x).imp
  let ge (x : Phase) := chainStep q (acc.grossResidue.get x).exp (acc.gross.get x).exp (grossShares.get x).exp
  ({ updateCount := (acc.updateCount + 1) % Config.modulus32
     bandImp := acc.bandImp.set b i.register
     bandExp := acc.bandExp.set b e.register
     residue := ⟨i.residue, e.residue⟩
     gross := ⟨⟨(gi .a).register, (ge .a).register⟩, ⟨(gi .b).register, (ge .b).register⟩,
               ⟨(gi .c).register, (ge .c).register⟩⟩
     grossResidue := ⟨⟨(gi .a).residue, (ge .a).residue⟩, ⟨(gi .b).residue, (ge .b).residue⟩,
                      ⟨(gi .c).residue, (ge .c).residue⟩⟩ },
   ⟨i.quanta, e.quanta⟩,
   i.wraps || e.wraps || (gi .a).wraps || (ge .a).wraps || (gi .b).wraps || (ge .b).wraps || (gi .c).wraps
     || (ge .c).wraps)

/-- A credit is handed to the demand unit (R87). -/
def State.handCredit (s : State) (c : Credit) : State := { s with credits := s.credits ++ [c] }

/-- The accounts take shares, ENERGY_ROLLOVER is raised once where a register wraps (R84), the update count moves (R96),
and the band quanta go to the demand unit as one credit (R87). -/
def State.creditBank (s : State) (q : Nat) (b : Band) (shares : Flows) (grossShares : PerPhase Flows) (mark : Bool) :
    State :=
  let r := s.bank.accounts.creditAll q b shares grossShares
  (({ s with bank := { s.bank with accounts := r.1 } }).raiseIf r.2.2 .energyRollover).handCredit
    { quanta := r.2.1, band := b, intervalEnd := mark }

/-- The normalisation of the residues by a new quantum size (R88, R89). -/
def State.normalise (s : State) (newQ : Nat) (b : Band) : State :=
  s.creditBank newQ b ⟨0, 0⟩ (.all ⟨0, 0⟩) false

/-- The total of a direction (R90). -/
def total (registers : Vector Nat 8) : Nat := registers.toList.sum % Config.registerModulus

end Sys2Proof.Machine
end

