-- ==== Sys2Proof/Machine/DemandOps.lean ====
section
/-!
DEFINITION. The demand unit: beginning, ending, closing and abandoning intervals (chapter 7).
-/

namespace Sys2Proof.Machine

/-- The interval is ended by its counter: FREE and ONE_SHOT, and ALIGNED while the clock is not set (R119). -/
def State.counterMode (s : State) : Bool :=
  match s.demandMode with
  | .free | .oneShot => true
  | .aligned => !s.calendar.clockSet
  | .off => false

/-- An interval begins (R117). `reload` loads the current count from the base; it is false for the beginning that the
close of the previous interval causes, which keeps the count reloaded at the terminal count. -/
def State.beginInterval (s : State) (partialMark reload : Bool) : State :=
  let base := if s.counterMode then s.demandMinutes * Config.strobesPerMinute else 0
  { s with demand :=
    { s.demand with
      state := .running
      partialMark := partialMark
      sums := ⟨0, 0⟩
      stampDay := 0
      stampMinute := 0
      base := base
      current := if s.counterMode && !reload then s.demand.current else base
      terminal := s.demand.terminal && s.counterMode && !reload } }

/-- The interval is abandoned without comparison and the unit is IDLE (R124). -/
def Demand.abandonToIdle (d : Demand) : Demand :=
  { d with state := .idle, partialMark := false, sums := ⟨0, 0⟩, base := 0, current := 0, terminal := false, stampDay := 0,
           stampMinute := 0, restartPending := false }

/-- The end of the interval in RUNNING: the end stamp is taken, the unit enters ENDING and makes one INTERVAL close
request (R120). In every other state the end is disregarded. -/
def State.endInterval (s : State) : State :=
  if s.demand.state = .running then
    { s with
      demand := { s.demand with state := .ending, stampDay := s.calendar.day, stampMinute := s.calendar.minute }
      requests := s.requests ++ [.interval] }
  else s

/-- One set has been processed: the interval counter counts it (R119). The model's mark `terminal` says that the step
TERMINAL_COUNT is due. A loaded counter counts on, also under ALIGNED between the SET TIME that sets the clock and its notice:
DEDUCED, log 36. -/
def Demand.countSet (d : Demand) : Demand :=
  match d.state with
  | .running | .ending =>
    if d.current = 0 then d else { d with current := d.current - 1, terminal := d.terminal || decide (d.current = 1) }
  | .idle | .done => d

/-- The record of a direction after the close of an eligible interval (R121). -/
def DemandRecord.update (r : DemandRecord) (sum day minute : Nat) : DemandRecord :=
  let demand := min sum top32
  if r.value < demand then { value := demand, day := day, minute := minute } else r

/-- The comparison of an interval with the records of its band; a partial interval compares nothing (R121). -/
def Demand.compare (d : Demand) (b : Band) : Demand :=
  if d.partialMark then d
  else
    { d with records :=
      { imp := d.records.imp.set b ((d.records.imp.get b).update d.sums.imp d.stampDay d.stampMinute)
        exp := d.records.exp.set b ((d.records.exp.get b).update d.sums.exp d.stampDay d.stampMinute) } }

/-- The close of the interval by its marked credit (R121). -/
def State.closeInterval (s : State) (b : Band) : State :=
  let s := { s with demand := s.demand.compare b }
  match s.demandMode with
  | .free => s.beginInterval false false
  | .aligned => s.beginInterval (!s.calendar.clockSet) false
  | .oneShot =>
    if s.demand.restartPending then
      ({ s with demand := { s.demand with restartPending := false } }).beginInterval false true
    else
      ({ s with demand := { s.demand with sums := ⟨0, 0⟩, state := .done } }).raise .demandDone
  | .off => { s with demand := s.demand.abandonToIdle }

/-- Quanta join the interval sums (R121). -/
def Demand.add (d : Demand) (c : Credit) : Demand :=
  { d with sums := ⟨d.sums.imp + c.quanta.imp, d.sums.exp + c.quanta.exp⟩ }

/-- A credit as the demand unit handles it by its interval state (R121). -/
def State.acceptCredit (s : State) (c : Credit) : State :=
  match s.demand.state with
  | .idle | .done => s
  | .running => { s with demand := s.demand.add c }
  | .ending =>
    let s := { s with demand := s.demand.add c }
    if c.intervalEnd then s.closeInterval c.band else s

/-- The demand unit takes the oldest credit (R121). -/
def State.takeCredit (s : State) : State :=
  match s.credits with
  | [] => s
  | c :: rest => ({ s with credits := rest }).acceptCredit c

/-- The demand unit takes the `n` oldest credits. -/
def State.takeCredits : Nat → State → State
  | 0, s => s
  | n + 1, s => State.takeCredits n s.takeCredit

/-- A notice of a SET TIME abandons an ALIGNED interval and begins a partial one (R122). -/
def State.takeNotice (s : State) : State :=
  match s.timeNotices with
  | [] => s
  | _ :: rest =>
    let s := { s with timeNotices := rest }
    if s.demandMode = .aligned ∧ s.windowsRun = true ∧ (s.demand.state = .running ∨ s.demand.state = .ending) then
      s.beginInterval true true
    else s

/-- A minute rollover is handed to the demand unit: in ALIGNED with the clock set it ends an interval whose DI divides the
new minute (R118). -/
def State.minuteToDemand (s : State) : State :=
  if s.demandMode = .aligned ∧ s.calendar.clockSet = true ∧ s.calendar.minute % s.demandMinutes = 0 then s.endInterval
  else s

/-- The terminal count of the interval counter (R119, R120). It reloads and ends an ALIGNED interval that was begun with the
clock unset also where the clock has been set since: DEDUCED, log 36. -/
def State.takeTerminalCount (s : State) : State :=
  let reloads := decide (s.demandMode ≠ .oneShot)
  ({ s with demand :=
      { s.demand with terminal := false, current := if reloads then s.demand.base else 0 } }).endInterval

/-- The interval counter's terminal count is taken where it is due (R119). -/
def State.takeTerminal (s : State) : State := if s.demand.terminal then s.takeTerminalCount else s

/-- The credits that the demand unit takes before it takes an install, under the table before it. How many of the waiting
ones these are is free (R123, log 15). -/
def State.creditsBeforeInstall (s : State) (old : Option Meter) : State :=
  let before := { s with tables := { s.tables with meterActive := old }, freeChoices := s.freeChoices + 1 }
  let credited := State.takeCredits (min (Config.creditsBeforeInstall s.freeChoices) s.credits.length) before
  { credited with tables := s.tables }

/-- The interval in progress, or the DONE state, is abandoned without comparison, and a partial interval begins under the new
values; under OFF the unit enters IDLE (R123). -/
def State.abandonForInstall (s : State) : State :=
  let s := { s with demand := { s.demand with restartPending := false } }
  if s.demandMode = .off then { s with demand := s.demand.abandonToIdle } else s.beginInterval true true

/-- The install changes DEMAND_MODE or DI (R123). -/
def changesDemand (old : Option Meter) (new : Meter) : Bool :=
  match old with
  | none => true
  | some m => decide (m.demandMode ≠ new.demandMode ∨ m.di ≠ new.di)

/-- The install of a METER table at the demand unit, which acts in METERING (R123). -/
def State.installAtDemand (s : State) (old : Option Meter) (new : Meter) : State :=
  if changesDemand old new = true ∧ s.engine.state = .metering then (s.creditsBeforeInstall old).abandonForInstall else s

end Sys2Proof.Machine
end

