-- ==== Sys2Proof/Machine/TableOps.lean ====
section
/-!
DEFINITION. The table store: structure, clamping and installing (chapter 8), with what an install does at each block.
-/

namespace Sys2Proof.Machine

/-- The three staged tables and TRIGGER, by number (R169). -/
inductive TableName
  | cal | meter | calendar | trigger
  deriving DecidableEq, Repr

def tableOf (b : Byte) : Option TableName :=
  if b = 0 then some .cal
  else if b = 1 then some .meter
  else if b = 2 then some .calendar
  else if b = 3 then some .trigger
  else none

/-! ### Structure (R134) -/

/-- The kinds of structural fault, numbered in this order (R134, R170). -/
inductive FaultKind
  | badValue | outOfOrder | emptyNotTrailing
  deriving DecidableEq, Repr

def faultKindCode : FaultKind → Byte
  | .badValue => 0
  | .outOfOrder => 1
  | .emptyNotTrailing => 2

/-- The first entry, counted from `i`, for which `bad` gives a kind. -/
def firstFault {α : Type} (bad : Nat → α → Option FaultKind) : Nat → List α → Option (Nat × FaultKind)
  | _, [] => none
  | i, x :: rest =>
    match bad i x with
    | some k => some (i, k)
    | none => firstFault bad (i + 1) rest

/-- A CAL entry with POLARITY above 1 (R134). -/
def calFault (_ : Nat) (e : CalEntry) : Option FaultKind := if 1 < e.polarity then some .badValue else none

/-- A METER field outside its enumeration (R134). -/
def meterFault (i v : Nat) : Option FaultKind :=
  let bad := match i with
    | 0 => decide (v = 0 ∨ 7 < v)
    | 1 => decide (2 < v)
    | 8 => decide (2 < v)
    | 16 => decide (8 < v)
    | 17 => decide (7 < v)
    | 18 => decide (3 < v)
    | 20 => decide (1 < v)
    | _ => false
  if bad then some .badValue else none

/-- A switch point after `last` used minute of its profile and, when `gap`, after an empty point of it (R134, log 23). -/
def pointFault (last : Option Nat) (gap : Bool) (p : SwitchPoint) : Option FaultKind :=
  if p.minute = 0xFFFF then none
  else if 1440 ≤ p.minute ∨ 7 < p.band then some .badValue
  else if last.any (fun m => decide (p.minute ≤ m)) then some .outOfOrder
  else if gap then some .emptyNotTrailing
  else none

/-- The first faulty switch point; `i` is the index of the next point, and a profile begins at each multiple of 12. -/
def pointsFault : Nat → Option Nat → Bool → List SwitchPoint → Option (Nat × FaultKind)
  | _, _, _, [] => none
  | i, last, gap, p :: rest =>
    let last := if i % 12 = 0 then none else last
    let gap := if i % 12 = 0 then false else gap
    match pointFault last gap p with
    | some k => some (i, k)
    | none =>
      if p.minute = 0xFFFF then pointsFault (i + 1) last true rest else pointsFault (i + 1) (some p.minute) gap rest

/-- A week-map entry above 7, or WEEKDAY_OFFSET above 6 (R134). -/
def weekFault (i v : Nat) : Option FaultKind :=
  if (if i = 103 then 6 else 7) < v then some .badValue else none

/-- The first structural fault of a CALENDAR copy in index order (R134). -/
def CalendarTable.fault (t : CalendarTable) : Option (Nat × FaultKind) :=
  match pointsFault 0 none false t.points with
  | some f => some f
  | none => firstFault weekFault 96 (t.week ++ [t.offset])

/-- The first structural fault of the pending copy of a table (R134). -/
def Tables.pendingFault (t : Tables) : TableName → Option (Nat × FaultKind)
  | .cal => firstFault calFault 0 t.calPending.toList
  | .meter => firstFault meterFault 0 t.meterPending.fields
  | .calendar => t.calendarPending.fault
  | .trigger => none

/-! ### Clamping (R135) -/

/-- A value in the range lo..hi nearest to `x`. -/
def clamp (lo hi x : Nat) : Nat := max lo (min hi x)

/-- The largest divisor of 1440 not above `n` (R135). -/
def divisorBelow : Nat → Nat
  | 0 => 1
  | n + 1 => if 1440 % (n + 1) = 0 then n + 1 else divisorBelow n

/-- The clamped image of a METER copy (R135, section 8.2). -/
def Meter.clamped (m : Meter) : Meter :=
  let expTrip := min (2 ^ 40) m.expTrip
  let qAssert := clamp 1 255 m.qAssert
  let di := clamp 1 60 m.di
  { m with
    nw := clamp 80 3600000 m.nw
    q := clamp (2 ^ 16) (2 ^ 48) m.q
    creep := min (2 ^ 32) m.creep
    expTrip := expTrip
    expWarn := min expTrip m.expWarn
    tripCount := clamp 1 16 m.tripCount
    cycleLen := clamp 64 100 m.cycleLen
    substMax := min 40000 m.substMax
    qAssert := qAssert
    qClear := min (qAssert - 1) m.qClear
    stuckLimit := if m.stuckLimit = 0 then 0 else clamp 16 4000 m.stuckLimit
    lowv := min 524287 m.lowv
    watchdog := min 255 m.watchdog
    di := if demandModeOf m.demandMode = .aligned then divisorBelow di else di }

/-- The index, counted from `i`, of the first field in which two lists differ. -/
def firstDifference : Nat → List Nat → List Nat → Option Nat
  | i, x :: xs, y :: ys => if x = y then firstDifference (i + 1) xs ys else some i
  | _, _, _ => none

/-- The first clamped field of the pending copy; only METER has fields that are clamped (R135). -/
def Tables.firstClamped (t : Tables) : TableName → Option Nat
  | .meter => firstDifference 0 t.meterPending.fields t.meterPending.clamped.fields
  | .cal | .calendar | .trigger => none

/-! ### What an install does at each block (R138) -/

/-- A METER install at lane x: the lane follows its bit in the LANES mask (R20). -/
def Lane.install (l : Lane) (x : Phase) (wasEnabled isEnabled : Bool) (exitIndex : StrobeIndex) : Lane :=
  if !wasEnabled && isEnabled then (if l.state = .off then l.enterSeek else l)
  else if wasEnabled && !isEnabled then
    { (l.sendTestExit x exitIndex).clearRuns.restartPeriod.resetDetectors with state := .off, queue := [] }
  else l

/-- A METER install at lane receiver x (R20), with the checker context of a lane that leaves TEST (R182). -/
def State.installAtLane (s : State) (wasEnabled : Bool) (detectorsRestart : Bool) (x : Phase) : State :=
  let isEnabled := s.enabled x
  let s := if wasEnabled && !isEnabled then s.endLaneTest x else s
  let l := (s.lanes.get x).install x wasEnabled isEnabled s.aligner.latestIndex
  s.changeLane x (if detectorsRestart then l.resetDetectors else l)

/-- The lane was enabled in the table before the install (R20). -/
def enabledIn (m : Option Meter) (x : Phase) : Bool :=
  match m with
  | none => false
  | some m => m.lanes.testBit (phaseNumber x)

/-- The install changes STUCK_LIMIT (R20). -/
def changesStuckLimit (old : Option Meter) (new : Meter) : Bool :=
  match old with
  | none => true
  | some m => decide (m.stuckLimit ≠ new.stuckLimit)

/-- A METER install at the aligner: a changed CYCLE_LEN empties the memories (R36). -/
def State.installAtAligner (s : State) (old : Option Meter) (new : Meter) : State :=
  let changed := match old with
    | none => true
    | some m => decide (m.cycleLen ≠ new.cycleLen)
  if changed then { s with aligner := { s.aligner with cycles := s.aligner.cycles.map CycleMemory.empty } } else s

/-- A METER install at the register bank: a changed Q normalises the residues, crediting band `b` (R88, R89). -/
def State.installAtBank (s : State) (old : Option Meter) (new : Meter) (b : Band) : State :=
  match old with
  | none => s
  | some m => if m.q = new.q then s else s.normalise new.q b

/-- A METER install at the watchdog, in METERING (R150). That an install of WATCHDOG 0 voids an expiry that is due is DESIGN
CHOICE (log 34). -/
def State.installAtWatchdog (s : State) (old : Option Meter) (new : Meter) : State :=
  if s.engine.state = .metering then
    let was := match old with
      | none => 0
      | some m => m.watchdog
    if new.watchdog = 0 then
      { s with monitor := { s.monitor with watchdogRunning := false, watchdogCount := 0, expired := false } }
    else if was = 0 then
      { s with monitor := { s.monitor with watchdogRunning := true, watchdogCount := 0, expired := false } }
    else s
  else s

/-- A METER install at every block but the calendar (R138). -/
def State.installMeter (s : State) (old : Option Meter) (new : Meter) (b : Band) : State :=
  let restart := changesStuckLimit old new
  let s := s.installAtLane (enabledIn old .a) restart .a
  let s := s.installAtLane (enabledIn old .b) restart .b
  let s := s.installAtLane (enabledIn old .c) restart .c
  let s := s.installAtAligner old new
  let s := s.installAtBank old new b
  let s := s.installAtDemand old new
  s.installAtWatchdog old new

/-! ### The install (R137) -/

/-- Which of the staged tables. -/
structure TableChoice where
  cal      : Bool
  meter    : Bool
  calendar : Bool

/-- The active copies of the chosen tables become the clamped images of the pending ones, and their requests are no longer
outstanding (R137). -/
def Tables.activate (t : Tables) (w : TableChoice) : Tables :=
  { t with
    calActive := if w.cal then some t.calPending else t.calActive
    calRequest := t.calRequest && !w.cal
    meterActive := if w.meter then some t.meterPending.clamped else t.meterActive
    meterRequest := t.meterRequest && !w.meter
    calendarActive := if w.calendar then some t.calendarPending else t.calendarActive
    calendarRequest := t.calendarRequest && !w.calendar }

/-- The install of the chosen tables in one step (R137): the active copies change together, then each block reacts, the
calendar's evaluation last (R112). `b` is the band that a normalisation credits (R88, R89). -/
def State.install (s : State) (w : TableChoice) (b : Band) : State :=
  let old := s.tables.meterActive
  let s := { s with tables := s.tables.activate w }
  let s := if w.cal then { s with history := .all none } else s
  let s := if w.meter then s.installMeter old s.tables.meterPending.clamped b else s
  let s := if w.meter || w.calendar then s.evaluate else s
  ((s.raiseIf w.cal .tableInstalled).raiseIf w.meter .tableInstalled).raiseIf w.calendar .tableInstalled

/-- The install of every outstanding request (R137). -/
def State.installRequested (s : State) (b : Band) : State :=
  s.install { cal := s.tables.calRequest, meter := s.tables.meterRequest, calendar := s.tables.calendarRequest } b

/-- An apply request is outstanding for some table. -/
def Tables.anyRequest (t : Tables) : Bool := t.calRequest || t.meterRequest || t.calendarRequest

/-- Every outstanding request is cancelled, without an install (R140). -/
def Tables.cancelRequests (t : Tables) : Tables :=
  { t with calRequest := false, meterRequest := false, calendarRequest := false }

/-! ### Entries on the wire (R130, R131, R169) -/

/-- The last index of a table that an entry may be written to or read from, plus one (section 8.2). -/
def entryLimit : TableName → Nat
  | .cal => 3
  | .meter => 21
  | .calendar => 104
  | .trigger => 4

/-- How many whole entries `len` bytes hold from index `first` on, each at the width of its own index; none where the
bytes do not end on a whole entry (R131, R169). -/
def wholeEntries (t : TableName) (first len : Nat) : Option Nat :=
  let byWidth (n : Nat) : Option Nat := if len % n = 0 then some (len / n) else none
  match t with
  | .cal => byWidth 10
  | .meter => byWidth 8
  | .trigger => byWidth 5
  | .calendar =>
    let points := 96 - first
    if len ≤ 3 * points then byWidth 3 else some (points + (len - 3 * points))

/-- `entries` written over a list from index `first` on. -/
def overwrite {α : Type} (old : List α) (first : Nat) (entries : List α) : List α :=
  (old.take first ++ entries ++ old.drop (first + entries.length)).take old.length

/-- The CAL copy with entries written from index `first` on. -/
def writeCal (t : PerPhase CalEntry) (first : Nat) (entries : List CalEntry) : PerPhase CalEntry :=
  let l := overwrite t.toList first entries
  ⟨l.getD 0 t.a, l.getD 1 t.b, l.getD 2 t.c⟩

/-- The CALENDAR copy with the bytes of entries written from index `first` on: 3 bytes each below index 96, then 1 byte. -/
def writeCalendar (t : CalendarTable) (first : Nat) (bytes : List Byte) : CalendarTable :=
  let pointBytes := bytes.take (3 * (96 - first))
  let restBytes := bytes.drop (3 * (96 - first))
  let newPoints := (pieces 3 pointBytes.length pointBytes).map
    (fun b => { minute := beNat (b.take 2), band := beNat (b.drop 2) : SwitchPoint })
  let days := overwrite (t.week ++ [t.offset]) (first - 96) (restBytes.map BitVec.toNat)
  { points := overwrite t.points first newPoints, week := days.take t.week.length,
    offset := days.getD t.week.length t.offset }

/-- The pending copy of a staged table with the bytes of whole entries written (R131); TRIGGER is written live (R133). -/
def Tables.write (t : Tables) (name : TableName) (first : Nat) (bytes : List Byte) : Tables :=
  match name with
  | .cal => { t with calPending := writeCal t.calPending first ((pieces 10 bytes.length bytes).map calEntryOf) }
  | .meter =>
    { t with meterPending := meterOf (overwrite t.meterPending.fields first ((pieces 8 bytes.length bytes).map beNat)) }
  | .calendar => { t with calendarPending := writeCalendar t.calendarPending first bytes }
  | .trigger => { t with trigger := overwrite t.trigger first ((pieces 5 bytes.length bytes).map triggerEntryOf) }

/-- An apply request is outstanding for the table. -/
def Tables.request (t : Tables) : TableName → Bool
  | .cal => t.calRequest
  | .meter => t.meterRequest
  | .calendar => t.calendarRequest
  | .trigger => false

/-- The encoded entries of the pending copy in index order (R130). -/
def Tables.pendingEntries (t : Tables) : TableName → List (List Byte)
  | .cal => calEntries t.calPending
  | .meter => meterEntries t.meterPending
  | .calendar => calendarEntries t.calendarPending
  | .trigger => triggerEntries t.trigger

/-- The encoded entries of the active copy, none while it is invalid; TRIGGER reads as its one table (R132). -/
def Tables.activeEntries (t : Tables) : TableName → Option (List (List Byte))
  | .cal => t.calActive.map calEntries
  | .meter => t.meterActive.map meterEntries
  | .calendar => t.calendarActive.map calendarEntries
  | .trigger => some (triggerEntries t.trigger)

end Sys2Proof.Machine
end

