-- ==== Sys2Proof/Machine/NettingOps.lean ====
section
/-!
DEFINITION. The netting engine: processing a set, closing a window, close requests, and the entry to each engine state
(chapter 4), with what each entry does at the other blocks.
-/

namespace Sys2Proof.Machine

/-! ### Netting and creep (R68 to R71) -/

def netModeOf (n : Nat) : NetMode :=
  match n with
  | 0 => .gross
  | 1 => .phase
  | _ => .sum

/-- The shares and the signed discard of a close (R68). -/
structure Netted where
  aImp    : Nat
  aExp    : Nat
  discard : Int
  deriving DecidableEq, Repr

def Netted.add (x y : Netted) : Netted := ⟨x.aImp + y.aImp, x.aExp + y.aExp, x.discard + y.discard⟩

/-- A signed energy under the creep energy: discarded, or the share of its direction (R70, R71). -/
def netSigned (creep : Nat) (e : Int) : Netted :=
  if e.natAbs < creep then ⟨0, 0, e⟩ else if 0 < e then ⟨e.natAbs, 0, 0⟩ else ⟨0, e.natAbs, 0⟩

/-- A phase under GROSS (R69). -/
def netGross (creep : Nat) (p : PhaseSums) : Netted :=
  if p.grossImp + p.grossExp < creep then ⟨0, 0, p.energy⟩ else ⟨p.grossImp, p.grossExp, 0⟩

/-- The netting of a window under its mode and creep energy (R68). -/
def net (mode : NetMode) (creep : Nat) (sums : PerPhase PhaseSums) : Netted :=
  match mode with
  | .gross => ((netGross creep sums.a).add (netGross creep sums.b)).add (netGross creep sums.c)
  | .phase =>
    ((netSigned creep sums.a.energy).add (netSigned creep sums.b.energy)).add (netSigned creep sums.c.energy)
  | .sum => netSigned creep (sums.a.energy + sums.b.energy + sums.c.energy)

/-! ### Direction, low voltage, export check (R73 to R75) -/

/-- The direction of a phase over the window (R73). -/
def directionOf (creep : Nat) (e : Int) : Direction :=
  if e.natAbs < creep ∨ e = 0 then .idle else if 0 < e then .imports else .exports

/-- The flow of a direction that is not IDLE. -/
def Direction.flow : Direction → Option Flow
  | .idle => none
  | .imports => some .imports
  | .exports => some .exports

/-- A reversal: the direction is not IDLE and the last one was the other (R73). -/
def reverses (last : Option Flow) (d : Direction) : Bool :=
  match last, d.flow with
  | some l, some f => decide (l ≠ f)
  | _, _ => false

/-- The last non-IDLE direction after a close (R73). -/
def lastAfter (last : Option Flow) (d : Direction) : Option Flow :=
  match d.flow with
  | some f => some f
  | none => last

/-- The judgement of a phase (R74). -/
def judgeLow (m : Meter) (x : Phase) (p : PhaseSums) : LowJudgement :=
  if m.lanes.testBit (phaseNumber x) then
    if p.sets = 0 ∨ p.squares < (m.lowv * m.lowv * p.sets : Nat) then .low else .notLow
  else .notEnabled

/-- The export check (R75): whether it is made, and the state and consecutive count after it. -/
def exportCheck (m : Meter) (anyLow : Bool) (aExp n : Nat) (st : ExportState) (count : Nat) :
    ExportCheck × ExportState × Nat :=
  if m.expTrip = 0 then (.disabled, .normal, 0)
  else if anyLow then (.skipped, st, count)
  else if m.expTrip * n < aExp then
    let count := min (count + 1) m.tripCount
    (.made, if count = m.tripCount then .trip else if st = .trip then .trip else .warn, count)
  else if m.expWarn * n < aExp then (.made, if st = .trip then .trip else .warn, 0)
  else (.made, .normal, 0)

/-! ### Windows (R60, R61, R62) -/

/-- A window of zero sets with the band in force (R60). -/
def State.emptyWindow (s : State) : Window :=
  { count := 0, band := s.calendar.band, opening := none, sums := .all sumsZero }

/-- The accumulation of one phase of a set (R61). -/
def PhaseSums.accumulate (p : PhaseSums) (c : CompletedPhase) : PhaseSums :=
  let p := match c.power with
    | none => p
    | some w =>
      { p with
        energy := p.energy + w
        grossImp := if 0 < w then p.grossImp + w.toNat else p.grossImp
        grossExp := if w < 0 then p.grossExp + (-w).toNat else p.grossExp }
  match c.square with
  | none => p
  | some q => { p with squares := p.squares + q, sets := p.sets + 1 }

/-- The accumulation of a set into the sums of a window whose LANES mask is `lanes` (R61). A phase of a lane disabled in that
mask keeps zero sums, whatever a set that was formed under the table before the install carries for it (R69, R86, log 33). -/
def accumulateSet (lanes : Nat) (sums : PerPhase PhaseSums) (phases : PerPhase CompletedPhase) : PerPhase PhaseSums :=
  let next (x : Phase) := if lanes.testBit (phaseNumber x) then (sums.get x).accumulate (phases.get x) else sums.get x
  ⟨next .a, next .b, next .c⟩

/-- A window takes a set: its opening at the first one, its count, and unless the set is HOLD its accumulation (R60 to
R62). -/
def Window.take (w : Window) (c : CompletedSet) (day minute : Nat) (m : Meter) : Window :=
  let o := w.opening.getD { day := day, minute := minute, meter := m }
  { w with
    count := w.count + 1
    opening := some o
    sums := if c.status.getLsbD holdBit then w.sums else accumulateSet o.meter.lanes w.sums c.phases }

/-! ### Closing (R67) -/

/-- The summary of a close (stages 1 to 4, R77) from the engine before it. -/
def Engine.summarize (e : Engine) (w : Window) (o : Opening) (cause : CloseCause) : Summary :=
  let m := o.meter
  let creep := m.creep * w.count
  let netted := net (netModeOf m.netMode) creep w.sums
  let direction := w.sums.map (fun p => directionOf creep p.energy)
  let low : PerPhase LowJudgement := ⟨judgeLow m .a w.sums.a, judgeLow m .b w.sums.b, judgeLow m .c w.sums.c⟩
  let anyLow := decide (low.a = .low) || decide (low.b = .low) || decide (low.c = .low)
  let check := exportCheck m anyLow netted.aExp w.count e.exportState e.consecutive
  { sequence := (e.sequence + 1) % Config.modulus32
    cause := some cause
    band := w.band
    day := o.day
    minute := o.minute
    count := w.count
    mode := netModeOf m.netMode
    q := m.q
    intervalEnd := decide (cause = .interval)
    aImp := netted.aImp
    aExp := netted.aExp
    discard := netted.discard
    sums := w.sums
    direction := direction
    reversal := PerPhase.zip reverses e.lastDirection direction
    low := low
    exportState := check.2.1
    consecutive := check.2.2
    check := check.1 }

/-- The engine's own state after the stages 2, 3, 4, 5 and 6 of a close (R73 to R77). -/
def Engine.record (e : Engine) (r : Summary) : Engine :=
  { e with
    lastCreditedBand := some r.band
    summary := r
    sequence := r.sequence
    lastDirection := PerPhase.zip lastAfter e.lastDirection r.direction
    reversals := PerPhase.zip (fun n b => if b then satInc top32 n else n) e.reversals r.reversal
    lowVoltage := r.low.map (fun j => decide (j = .low))
    exportState := r.exportState
    consecutive := r.consecutive }

/-- The netting engine's conditions are reported as they stand (R62, R74, R76, R151). -/
def State.reportEngine (s : State) : State :=
  let e := s.engine
  ((((((s.report (.lowVoltage .a) e.lowVoltage.a).report (.lowVoltage .b) e.lowVoltage.b).report (.lowVoltage .c)
    e.lowVoltage.c).report .exportWarn e.exportState.warns).report .exportTrip e.exportState.trips).report .unmetered
      e.unmetered).report .failsafe e.state.isFailsafe

/-- A window report joins the report queue; a full queue drops its oldest report first (R78, R161). -/
def State.queueReport (s : State) (r : Summary) : State :=
  if s.link.reports.length < Config.reportDepth then
    { s with link := { s.link with reports := s.link.reports ++ [r] } }
  else
    ({ s with link := { s.link with reports := s.link.reports.drop 1 ++ [r] } }).raise .reportDropped

/-- The gross sums of a window result (R72). -/
def Summary.grossShares (r : Summary) : PerPhase Flows := r.sums.map (fun p => ⟨p.grossImp, p.grossExp⟩)

/-- Stages 1 to 7 of the close of the window `w`, opened as `o` (R67). -/
def State.closeStages (s : State) (w : Window) (o : Opening) (cause : CloseCause) : State :=
  let r := s.engine.summarize w o cause
  let s := ({ s with engine := s.engine.record r }).reportEngine
  let s := s.creditBank r.q r.band ⟨r.aImp, r.aExp⟩ r.grossShares r.intervalEnd
  let s := if o.meter.reports = 1 then s.queueReport r else s
  { s with aligner := { s.aligner with
      windowClosed := true
      directionReversed := s.aligner.directionReversed || r.reversal.a || r.reversal.b || r.reversal.c } }

/-- The close of a window with one or more sets (R67): the stages 1 to 7, in METERING the installs, and the next window.
STOP's own move to CONFIG is made by the step STOP. -/
def State.closeWindow (s : State) (w : Window) (o : Opening) (cause : CloseCause) : State :=
  let s := s.closeStages w o cause
  let s := if s.engine.state = .metering then s.installRequested w.band else s
  { s with engine := { s.engine with window := some s.emptyWindow } }

/-! ### Processing a set (R61) -/

/-- The unmetered counter and condition at a processed set (R62). -/
def Engine.countHold (e : Engine) (hold : Bool) : Engine :=
  if hold then { e with unmeteredCount := satInc top32 e.unmeteredCount, unmetered := true } else { e with unmetered := false }

/-- A set is processed into the open window `w` under the METER table `m`, which closes FULL at NW sets (R61, R63). An interval
end that the set's count brings comes before that close (R119, log 14). UNMETERED follows the HOLD mark that the set carries,
whatever SUBST is active when it is processed (R62): DEDUCED, log 35. -/
def State.processInto (s : State) (w : Window) (m : Meter) (c : CompletedSet) : State :=
  let w := w.take c s.calendar.day s.calendar.minute m
  let s := ({ s with
    engine := { s.engine.countHold (c.status.getLsbD holdBit) with window := some w }
    demand := s.demand.countSet }).reportEngine
  match w.opening with
  | none => s
  | some o => if w.count = o.meter.nw then s.takeTerminal.closeWindow w o .full else s

/-- A completed set reaches the netting engine (R61): it is processed while windows run. -/
def State.processSet (s : State) (c : CompletedSet) : State :=
  match s.engine.state, s.engine.window, s.tables.meterActive with
  | .metering, some w, some m => s.processInto w m c
  | .failsafe, some w, some m => s.processInto w m c
  | _, _, _ => s

/-- Outstanding SWITCH requests that meet a window of zero sets are taken before a set opens it: they give it the band in
force, so every window carries the band in force at its first set (R65, R113, R115, log 28). -/
def State.rebandEmpty (s : State) : State :=
  match s.engine.window with
  | none => s
  | some w =>
    if s.windowsRun = true ∧ w.opening = none ∧ s.requests.contains .switch = true then
      { s with
        requests := s.requests.filter (fun c => decide (c ≠ .switch))
        engine := { s.engine with window := some { w with band := s.calendar.band } } }
    else s

/-- The netting engine takes the oldest completed set (R61). -/
def State.takeCompleted (s : State) : State :=
  match s.completed with
  | [] => s
  | c :: rest => (({ s with completed := rest }).rebandEmpty).processSet c

/-! ### Close requests (R64, R65) -/

/-- The close cause of a request. -/
def closeCauseOf : ForcedCause → CloseCause
  | .switch => .switch
  | .time => .time
  | .interval => .interval

/-- A request that meets a window of zero sets (R65). -/
def State.requestEmpty (s : State) (w : Window) (cause : ForcedCause) : State :=
  match cause with
  | .switch => { s with engine := { s.engine with window := some { w with band := s.calendar.band } } }
  | .time => s
  | .interval =>
    s.handCredit { quanta := ⟨0, 0⟩, band := s.engine.lastCreditedBand.getD w.band, intervalEnd := true }

/-- A request that meets the open window (R64); in CONFIG it finds none and is disregarded. -/
def State.requestClose (s : State) (cause : ForcedCause) : State :=
  match s.engine.state, s.engine.window with
  | .config, _ => s
  | _, none => s
  | _, some w =>
    match w.opening with
    | some o => s.closeWindow w o (closeCauseOf cause)
    | none => s.requestEmpty w cause

/-- The netting engine takes an outstanding request of the cause, where there is one: requests come in whichever order (R64,
R66, R102, log 28). -/
def State.takeRequest (s : State) (cause : ForcedCause) : State :=
  if s.requests.contains cause then ({ s with requests := s.requests.erase cause }).requestClose cause else s

/-! ### Engine states -/

/-- The watchdog stops with its count at 0 (R148). -/
def Monitor.stopWatchdog (m : Monitor) : Monitor := { m with watchdogRunning := false, watchdogCount := 0, expired := false }

/-- The watchdog starts with its count at 0 where WATCHDOG is not 0, and is stopped where it is (R148, R152). -/
def State.startWatchdog (s : State) : State :=
  { s with monitor := { s.monitor with watchdogRunning := decide (s.watchdogSeconds ≠ 0), watchdogCount := 0, expired := false } }

/-- What is on its way between blocks when windows stop running: requests are disregarded, credits and notices find the
demand unit IDLE, and sets released before are not processed (R55, R58, R64, R121, log 16). -/
def State.dropHandOvers (s : State) : State :=
  { s with
    requests := []
    credits := []
    timeNotices := []
    completed := []
    released := s.released.map (fun r => { r with forNetting := false }) }

/-- The watchdog's expiry is due (R148, R151). -/
def State.expiryDue (s : State) : Bool := s.monitor.watchdogRunning && s.monitor.expired

/-- The entry to FAILSAFE at a watchdog expiry (R56, R151). -/
def State.enterFailsafe (s : State) : State :=
  let s := { s with monitor := s.monitor.stopWatchdog }
  if s.engine.state = .metering then
    let s := ({ s with engine := { s.engine with state := .failsafe } }).reportEngine
    let cancelled := s.tables.anyRequest
    let s := ({ s with
      tables := s.tables.cancelRequests
      capture := { s.capture with state := .idle, queue := [] }
      link := { s.link with paused := false } }).raiseIf cancelled .applyCancelled
    s.evaluate
  else s

/-- The watchdog expires where its expiry is due. -/
def State.takeExpiry (s : State) : State := if s.expiryDue then s.enterFailsafe else s

/-- START in CONFIG with both tables active (R54): METERING with a window of zero sets, the watchdog started (R148), a
partial interval begun (R117), and the band evaluated (R112). -/
def State.startMetering (s : State) : State :=
  let s := { s with
    engine := { s.engine with state := .metering, window := some s.emptyWindow, lastCreditedBand := none }
    credits := []
    timeNotices := [] }
  let s := s.startWatchdog
  let s := if s.demandMode = .off then s else s.beginInterval true true
  s.evaluate

/-- The entry to CONFIG at STOP, after the close of a window that held sets (R55, R124, R152). -/
def State.enterConfig (s : State) : State :=
  let s := ({ s with
    engine := { s.engine with state := .config, window := none, unmetered := false }
    demand := s.demand.abandonToIdle
    monitor := s.monitor.stopWatchdog }).reportEngine
  s.dropHandOvers

/-- STOP while windows run (R55): a window with sets closes with its installs; a window of zero sets closes nothing, and the
outstanding requests install at the entry to CONFIG, credited to the band in force (R89). The evaluation follows the change
of state (R112). -/
def State.stopMetering (s : State) : State :=
  match s.engine.window with
  | some w =>
    match w.opening with
    | some o => (s.closeWindow w o .stop).enterConfig.evaluate
    | none => (s.enterConfig.installRequested s.calendar.band).evaluate
  | none => (s.enterConfig.installRequested s.calendar.band).evaluate

/-- RESUME in FAILSAFE (R57, R152). -/
def State.resumeMetering (s : State) : State :=
  let s := ({ s with engine := { s.engine with state := .metering } }).reportEngine
  s.startWatchdog.evaluate

/-! ### ENGINE RESET -/

/-- A lane at ENGINE RESET (R21). -/
def Lane.reset (l : Lane) (x : Phase) (isEnabled : Bool) (exitIndex : StrobeIndex) : Lane :=
  { (l.sendTestExit x exitIndex).clearRuns.restartPeriod.resetDetectors with
    state := if isEnabled then .seek else .off
    queue := []
    lastPeriodErrors := 0
    counters := laneCountersAtPowerOn }

/-- The aligner at ENGINE RESET (R37). -/
def Aligner.reset (al : Aligner) : Aligner :=
  { al with
    restartPoint := al.latest
    openRange := []
    windowClosed := false
    bandChanged := false
    directionReversed := false
    cycles := al.cycles.map CycleMemory.empty
    estimating := false }

/-- The netting engine at ENGINE RESET (R58). -/
def Engine.reset (e : Engine) : Engine :=
  { e with
    state := .config
    window := none
    exportState := .normal
    consecutive := 0
    unmetered := false
    lowVoltage := .all false
    lastDirection := .all none
    lastCreditedBand := none }

/-- The capture unit at ENGINE RESET (R176). -/
def Capture.reset (u : Capture) : Capture :=
  { u with
    state := .idle
    queue := []
    source := .none
    sourceIndex := none
    current := 0
    decimationCount := 0
    overrun := 0 }

/-- The link port at ENGINE RESET (R164). -/
def Link.reset (k : Link) : Link := { k with reports := [], reportInProgress := none, urgent := none, paused := false }

/-- The fault monitor at ENGINE RESET (R153): every latch is cleared, the conditions that the reset leaves true are latched
again without a raise, and then the events of the reset's own effects are latched. -/
def State.resetMonitor (s : State) (cancelled : Bool) : State :=
  let live := s.liveConditions
  ({ s with monitor :=
    { s.monitor.stopWatchdog with conditions := live, latched := live }.formAlert }).raiseIf cancelled .applyCancelled

/-- ENGINE RESET at every block (R58 and the rules it names). -/
def State.engineReset (s : State) : State :=
  let exitIndex := s.aligner.latestIndex
  let cancelled := s.tables.anyRequest
  let s := ((s.endLaneTest .a).endLaneTest .b).endLaneTest .c
  let s := { s with
    lanes := ⟨s.lanes.a.reset .a (s.enabled .a) exitIndex, s.lanes.b.reset .b (s.enabled .b) exitIndex,
              s.lanes.c.reset .c (s.enabled .c) exitIndex⟩
    aligner := s.aligner.reset
    history := .all none
    engine := s.engine.reset
    demand := s.demand.abandonToIdle
    tables := s.tables.cancelRequests
    capture := s.capture.reset
    link := s.link.reset }
  (s.dropHandOvers.withBandNow).resetMonitor cancelled

end Sys2Proof.Machine
end

