-- ==== Sys2Proof/Machine/FollowOns.lean ====
section
/-!
DEFINITION. The steps that other steps make due, each as an operation that acts where it is due and leaves the state as it
stands where it is not (log 2); and `settle`, which takes those that come about at once (log 3).
-/

namespace Sys2Proof.Machine

/-! ### The minute rollover (R98, R99) -/

/-- The strobe count has reached 240 000 and the step MINUTE_ROLLOVER is due (R98). -/
def Calendar.rolloverDue (c : Calendar) : Bool := decide (Config.strobesPerMinute ≤ c.strobeCount)

/-- The clock at a minute rollover: the strobe count becomes 0 and the minute is incremented (R98); past minute 1439 the day
is incremented up to 65 535, and the list is pruned while the clock is set (R99). -/
def Calendar.advance (c : Calendar) : Calendar :=
  if c.minute = 1439 then
    let c := { c with strobeCount := 0, minute := 0, day := satInc top16 c.day }
    if c.clockSet then c.prune else c
  else { c with strobeCount := 0, minute := c.minute + 1 }

/-- A minute rollover: the clock, then the evaluation, then the hand-over to the demand unit (R98). -/
def State.rollover (s : State) : State := ({ s with calendar := s.calendar.advance }).evaluate.minuteToDemand

/-! ### Steps that are taken at once where they are due -/

/-- The quality period of lane x ends where its end is due (R13). -/
def State.takePeriodEnd (s : State) (x : Phase) : State := if (s.lanes.get x).periodDue then s.endPeriod x else s

/-- The block of the capture unit ends where its terminal count is due (R173). -/
def State.takeCaptureTerminal (s : State) : State :=
  if s.capture.terminalDue then { s with capture := s.capture.terminal } else s

/-- The timebase of lane x ends where its end is due (R181). -/
def State.takeTimebaseEnd (s : State) (x : Phase) : State := if s.timebaseDue x then s.endTimebase x else s

/-- The minute rollover is taken where it is due (R98). -/
def State.takeRollover (s : State) : State := if s.calendar.rolloverDue then s.rollover else s

/-- No step that comes about at once is due. -/
def State.quiet (s : State) : Bool :=
  !s.lanes.a.periodDue && !s.lanes.b.periodDue && !s.lanes.c.periodDue && !s.capture.terminalDue
    && !s.timebaseDue .a && !s.timebaseDue .b && !s.timebaseDue .c && !s.demand.terminal && !s.calendar.rolloverDue

/-- The steps that are due and come about at once are taken, each at most one time: none of them makes another due that
stands before it here (log 3). -/
def State.settle (s : State) : State :=
  let s := ((s.takePeriodEnd .a).takePeriodEnd .b).takePeriodEnd .c
  let s := s.takeCaptureTerminal
  let s := ((s.takeTimebaseEnd .a).takeTimebaseEnd .b).takeTimebaseEnd .c
  s.takeTerminal.takeRollover

/-- A step of the device: nothing happens while the power-on reset is applied (R1); otherwise what is due at once is taken
first (log 3), and then the step acts. -/
def State.after (s : State) (act : State → State) : State := if s.resetApplied then s else act s.settle

/-- A step that is itself one of those that come about at once. -/
def State.unlessReset (s : State) (act : State → State) : State := if s.resetApplied then s else act s

/-- A release that is due, with the ends of quality periods that it makes due (R13, R24). -/
def State.release (s : State) : State :=
  (((s.releaseIfDue).takePeriodEnd .a).takePeriodEnd .b).takePeriodEnd .c

/-- The step STROBE (R22). An expiry and the releases that are due come before the next strobe; the open range holds at
most three sets, so three releases are enough (R23, R24, log 4). -/
def State.strobe (s : State) : State := s.takeExpiry.release.release.release.issueStrobe

end Sys2Proof.Machine
end

