-- ==== Sys2Proof/Machine/LinkOps.lean ====
section
/-!
DEFINITION. The link port: the downlink receiver, the upstream scheduler, and the execution of the command at the head of
the command queue (chapter 10).
-/

namespace Sys2Proof.Machine

/-! ### The downlink (R154, R155, R156) -/

/-- A command frame is accepted: its payload joins the command queue and the running watchdog restarts (R149, R155). -/
def State.queueCommand (s : State) (payload : List Byte) : State :=
  { s with
    link := { s.link with commands := s.link.commands ++ [payload] }
    monitor := if s.monitor.watchdogRunning then { s.monitor with watchdogCount := 0, expired := false } else s.monitor }

/-- A good COMMAND frame (R155). An expiry that is due comes before the acceptance (R149, log 5). -/
def State.acceptCommand (s : State) (payload : List Byte) : State :=
  if s.link.commands.length < Config.commandDepth then s.takeExpiry.queueCommand payload else s.raise .commandOverflow

/-- The frame that the receiver has ended is judged and acts by its kind (R154, R155; log 26). -/
def State.judgeDownlink (s : State) (f : LineFrame) : State :=
  match parseDownlinkFrame f with
  | none => s.raise .downlinkError
  | some (.command payload) => s.acceptCommand payload
  | some .pause => { s with link := { s.link with paused := true } }
  | some .resumeFlow => { s with link := { s.link with paused := false } }

/-- The downlink receiver is idle. -/
def State.downlinkIdle (s : State) : State := { s with link := { s.link with downlink := .idle } }

/-- A run of characters and the line idle after it reach the receiver (R154): while it waits for line idle the characters
are discarded without a flag; else they complete the frame that it receives (log 8). -/
def State.downlinkFrame (s : State) (f : LineFrame) : State :=
  match s.link.downlink with
  | .waitingForIdle => s.downlinkIdle
  | .idle => (s.judgeDownlink f).downlinkIdle
  | .receiving g =>
    (s.judgeDownlink { chars := g.chars ++ f.chars, stopBits := g.stopBits && f.stopBits }).downlinkIdle

/-- The downlink has been idle for 3 character times (R154): the wait for line idle ends, and a frame that was being
received is ended. -/
def State.downlinkIdleLine (s : State) : State :=
  match s.link.downlink with
  | .waitingForIdle => s.downlinkIdle
  | .idle => s
  | .receiving g => (s.judgeDownlink g).downlinkIdle

/-! ### The upstream scheduler (R159 to R162) -/

/-- The data bytes that one response frame carries at most (R159). -/
def responseChunk : Nat := 118

/-- The summary bytes that report part 0 carries (R170). -/
def reportChunk : Nat := 115

/-- A frame is begun with the header marks as they stand at the choice (R159, R162). -/
def State.beginFrame (s : State) (kind : UpKind) (more : Bool) (payload : List Byte) : State :=
  { s with link := { s.link with
      uplink := .sending
        { kind := kind, more := more, paused := s.link.paused, engine := s.engine.state, alert := s.monitor.alert,
          payload := payload } } }

/-- What a response still holds after its next frame (R160). -/
def Response.rest (r : Response) : Option Response :=
  if r.data.length ≤ responseChunk then none else some { r with data := r.data.drop responseChunk }

/-- The next frame of a response (R159); `responses` is what the response queue then holds. -/
def State.sendResponse (s : State) (r : Response) (responses : List Response) : State :=
  ({ s with link := { s.link with responses := responses, responseInProgress := r.rest } }).beginFrame .response
    r.rest.isSome (r.code :: statusCode r.status :: r.data.take responseChunk)

/-- Part 0 of a report (R159, R170). -/
def State.sendReportFirst (s : State) (r : Summary) (reports : List Summary) : State :=
  ({ s with link := { s.link with reports := reports, reportInProgress := some r } }).beginFrame .report true
    (beBytes 4 r.sequence ++ [0] ++ r.bytes.take reportChunk)

/-- Part 1 of a report (R159, R170). -/
def State.sendReportSecond (s : State) (r : Summary) : State :=
  ({ s with link := { s.link with reportInProgress := none } }).beginFrame .report false
    (beBytes 4 r.sequence ++ [1] ++ r.bytes.drop reportChunk)

/-- A capture record leaves the capture queue (R160, R174). -/
def State.sendCapture (s : State) (r : CaptureRecord) (queue : List CaptureRecord) : State :=
  ({ s with capture := { s.capture with queue := queue } }).beginFrame .capture false r.bytes

/-- The waiting notice leaves the urgent slot (R146, R160). -/
def State.sendNotice (s : State) (n : Notice) : State :=
  ({ s with link := { s.link with urgent := none } }).beginFrame .notice false n.bytes

/-- A source is eligible (R156, R160). -/
def State.eligible (s : State) (x : Source) : Bool :=
  match x with
  | .response => s.link.responseInProgress.isSome || !s.link.responses.isEmpty
  | .report => !s.link.paused && (s.link.reportInProgress.isSome || !s.link.reports.isEmpty)
  | .capture => !s.link.paused && !s.capture.queue.isEmpty

/-- The frame of a source that is eligible (R160). -/
def State.serve (s : State) (x : Source) : State :=
  match x with
  | .response =>
    match s.link.responseInProgress, s.link.responses with
    | some r, waiting => s.sendResponse r waiting
    | none, r :: waiting => s.sendResponse r waiting
    | none, [] => s
  | .report =>
    match s.link.reportInProgress, s.link.reports with
    | some r, _ => s.sendReportSecond r
    | none, r :: waiting => s.sendReportFirst r waiting
    | none, [] => s
  | .capture =>
    match s.capture.queue with
    | r :: waiting => s.sendCapture r waiting
    | [] => s

/-- The source taken moves to the end of the rotation order (R162). -/
def State.rotate (s : State) (x : Source) : State :=
  { s with link := { s.link with rotation := s.link.rotation.erase x ++ [x] } }

/-- No frame is begun and the uplink is idle (R162). -/
def State.nothingEligible (s : State) : State := { s with link := { s.link with uplink := .idle } }

/-- A choice of the scheduler (R162): the urgent slot first, else the first eligible source in the rotation order. -/
def State.choose (s : State) : State :=
  match s.link.urgent with
  | some n => s.sendNotice n
  | none =>
    match s.link.rotation.find? s.eligible with
    | some x => (s.serve x).rotate x
    | none => s.nothingEligible

/-! ### Executing a command (R157) -/

/-- What a command leaves and answers: the state, the status and the response data (R158). -/
structure Reply where
  state  : State
  status : Status
  data   : List Byte

/-- A refused command changes no state of its owner (R158). -/
def State.refuse (s : State) (status : Status) : Reply := { state := s, status := status, data := [] }

/-- A command answered OK. -/
def State.okay (s : State) (data : List Byte) : Reply := { state := s, status := .ok, data := data }

/-- A parameter length is right when it is `n` (R169). -/
def lengthIs (n : Nat) (params : List Byte) : Bool := params.length == n

/-- The command `c :: params` leaves the queue, is checked for its parameter length, acted on by its owner, and answered
(R157). -/
def State.answerHead (s : State) (rest : List (List Byte)) (code : Byte) (params : List Byte) (lengthOk : List Byte → Bool)
    (own : List Byte → State → Reply) : State :=
  let s := { s with link := { s.link with commands := rest } }
  let r := if lengthOk params then own params s else s.refuse .badCommand
  r.state.respond code r.status r.data

/-- The command at the head of the queue, where it carries the code, is executed while a response slot is free (R157). Where
the head carries another code, or no slot is free, or no command waits, the step is not due and does nothing (log 2). -/
def State.execute (s : State) (code : Byte) (lengthOk : List Byte → Bool) (own : List Byte → State → Reply) : State :=
  s.after (fun s =>
    match s.link.commands with
    | (c :: params) :: rest =>
      if s.link.responses.length < Config.responseDepth ∧ c = code then s.answerHead rest code params lengthOk own else s
    | _ => s)

/-- The codes of the command table (R169). -/
def commandCodes : List Byte :=
  [0x01#8, 0x10#8, 0x11#8, 0x12#8, 0x13#8, 0x14#8, 0x15#8, 0x20#8, 0x21#8, 0x22#8, 0x23#8, 0x30#8, 0x31#8, 0x32#8, 0x33#8,
   0x34#8, 0x38#8, 0x39#8, 0x40#8, 0x41#8, 0x42#8, 0x43#8, 0x48#8, 0x49#8, 0x4A#8, 0x50#8, 0x51#8, 0x52#8, 0x53#8, 0x58#8,
   0x59#8, 0x5A#8]

/-- The command at the head of the queue, where it has no known code, is removed and answered BAD_COMMAND (R157). -/
def State.executeUnknown (s : State) : State :=
  s.after (fun s =>
    match s.link.commands with
    | (c :: params) :: rest =>
      if s.link.responses.length < Config.responseDepth ∧ commandCodes.contains c = false then
        s.answerHead rest c params (fun _ => false) (fun _ s => s.refuse .badCommand)
      else s
    | _ => s)

end Sys2Proof.Machine
end

