-- ==== Sys2Proof/Machine/BankCommands.lean ====
section
/-!
DEFINITION. The commands of the register bank (chapter 5).
-/

namespace Sys2Proof.Machine

/-! ### PRELOAD (R92) -/

/-- The register that a PRELOAD names. -/
inductive PreloadTarget
  | band (imports : Bool) (b : Band)
  | gross (imports : Bool) (x : Phase)
  deriving DecidableEq, Repr

/-- The register of a class and an index: classes 0 band import, 1 band export, 2 gross import, 3 gross export (R92, R169). -/
def preloadTarget (cls index : Nat) : Option PreloadTarget :=
  let band (imports : Bool) : Option PreloadTarget := if index < 8 then some (.band imports (Fin.ofNat 8 index)) else none
  let gross (imports : Bool) : Option PreloadTarget := (phaseOf index).map (.gross imports)
  match cls with
  | 0 => band true
  | 1 => band false
  | 2 => gross true
  | 3 => gross false
  | _ => none

/-- A register replaced by a value, with the bank update count incremented (R92, R96). -/
def Accounts.preload (acc : Accounts) (t : PreloadTarget) (v : Nat) : Accounts :=
  let acc := { acc with updateCount := (acc.updateCount + 1) % Config.modulus32 }
  match t with
  | .band true b => { acc with bandImp := acc.bandImp.set b v }
  | .band false b => { acc with bandExp := acc.bandExp.set b v }
  | .gross true x => { acc with gross := acc.gross.modify x (fun g => { g with imp := v }) }
  | .gross false x => { acc with gross := acc.gross.modify x (fun g => { g with exp := v }) }

def preload (p : List Byte) (s : State) : Reply :=
  let v := beNat (p.drop 2)
  if s.engine.state ≠ .config then s.refuse .refusedState
  else
    match preloadTarget (p.getD 0 0).toNat (p.getD 1 0).toNat with
    | none => s.refuse .refusedRange
    | some t =>
      if v < Config.registerModulus then
        State.okay { s with bank := { s.bank with accounts := s.bank.accounts.preload t v } } []
      else s.refuse .refusedRange

/-- PRELOAD, 23h (R92). -/
def execPreload (s : State) : Host.Outcome State Fault Refusal := .next (s.execute 0x23#8 (lengthIs 10) preload)

/-! ### READ BANK and the snapshot (R93, R94, R95) -/

/-- Band registers, their total and a residue. -/
def bandPage (registers : Vector Nat 8) (residue : Nat) : List Byte :=
  (registers.toList.map (beBytes 6)).flatten ++ beBytes 6 (total registers) ++ beBytes 6 residue

/-- Import A, export A, import B, export B, import C, export C. -/
def flowsBytes (f : PerPhase Flows) : List Byte :=
  (f.toList.map (fun g => beBytes 6 g.imp ++ beBytes 6 g.exp)).flatten

/-- A page of accounts (R93): the bank update count, then the page; none above page 2. -/
def Accounts.page (acc : Accounts) (n : Nat) : Option (List Byte) :=
  match n with
  | 0 => some (beBytes 4 acc.updateCount ++ bandPage acc.bandImp acc.residue.imp)
  | 1 => some (beBytes 4 acc.updateCount ++ bandPage acc.bandExp acc.residue.exp)
  | 2 => some (beBytes 4 acc.updateCount ++ flowsBytes acc.gross ++ flowsBytes acc.grossResidue)
  | _ => none

/-- A page of data, or the refusal of a page that there is not. -/
def State.page (s : State) (data : Option (List Byte)) : Reply :=
  match data with
  | some d => s.okay d
  | none => s.refuse .refusedRange

def readBank (p : List Byte) (s : State) : Reply := s.page (s.bank.accounts.page (p.getD 0 0).toNat)

/-- READ BANK, 20h (R93). -/
def execReadBank (s : State) : Host.Outcome State Fault Refusal := .next (s.execute 0x20#8 (lengthIs 1) readBank)

/-- The band of the open window, or the band in force in CONFIG (R94). -/
def State.windowBand (s : State) : Band :=
  match s.engine.window with
  | some w => w.band
  | none => s.calendar.band

/-- The snapshot record that SNAPSHOT writes (R94). -/
def State.snapshotNow (s : State) : Snapshot :=
  { taken := true
    accounts := s.bank.accounts
    q := match s.tables.meterActive with
      | none => 0
      | some m => m.q
    day := s.calendar.day
    minute := s.calendar.minute
    clockSet := s.calendar.clockSet
    band := s.windowBand
    engine := s.engine.state
    sequence := s.engine.sequence }

def snapshot (_ : List Byte) (s : State) : Reply :=
  State.okay { s with bank := { s.bank with snapshot := s.snapshotNow } } []

/-- SNAPSHOT, 21h (R94). -/
def execSnapshot (s : State) : Host.Outcome State Fault Refusal := .next (s.execute 0x21#8 (lengthIs 0) snapshot)

/-- A page of the snapshot record (R95). -/
def Snapshot.page (r : Snapshot) (n : Nat) : Option (List Byte) :=
  match n with
  | 0 =>
    some ([markByte r.taken] ++ beBytes 4 r.accounts.updateCount ++ beBytes 7 r.q ++ beBytes 2 r.day ++ beBytes 2 r.minute
      ++ [markByte r.clockSet, bandByte r.band, engineCode r.engine] ++ beBytes 4 r.sequence)
  | n + 1 => r.accounts.page n

def readSnapshot (p : List Byte) (s : State) : Reply := s.page (s.bank.snapshot.page (p.getD 0 0).toNat)

/-- READ SNAPSHOT, 22h (R95). -/
def execReadSnapshot (s : State) : Host.Outcome State Fault Refusal :=
  .next (s.execute 0x22#8 (lengthIs 1) readSnapshot)

end Sys2Proof.Machine
end

