-- ==== Sys2Proof/Machine/CalendarCommands.lean ====
section
/-!
DEFINITION. The commands of the calendar (chapter 6).
-/

namespace Sys2Proof.Machine

/-! ### SET TIME (R101) -/

/-- The clock loaded and set, and the list pruned: steps 1 to 3 (R101). -/
def Calendar.load (c : Calendar) (day minute strobeCount : Nat) : Calendar :=
  { c with day := day, minute := minute, strobeCount := strobeCount, clockSet := true }.prune

/-- An accepted SET TIME (R101): the TIME request stands before the SWITCH request of the evaluation, and the demand unit is
handed a notice with the new minute. -/
def State.loadTime (s : State) (day minute strobeCount : Nat) : State :=
  let s := ({ s with calendar := s.calendar.load day minute strobeCount }).report .clockNotSet false
  let s := { s with requests := if s.windowsRun then s.requests ++ [ForcedCause.time] else s.requests }
  let s := s.evaluate
  { s with timeNotices := s.timeNotices ++ [minute] }

def setTime (p : List Byte) (s : State) : Reply :=
  let minute := beNat ((p.drop 2).take 2)
  let strobeCount := beNat (p.drop 4)
  if 1439 < minute then s.refuse .refusedRange
  else
    { state := s.loadTime (beNat (p.take 2)) minute (min 239999 strobeCount)
      status := if 239999 < strobeCount then .clamped else .ok
      data := [] }

/-- SET TIME, 30h (R101). -/
def execSetTime (s : State) : Host.Outcome State Fault Refusal := .next (s.execute 0x30#8 (lengthIs 7) setTime)

/-! ### READ CLOCK (R103) -/

/-- The weekday; WEEKDAY_OFFSET is taken as 0 while no CALENDAR table is active (R103). -/
def State.weekday (s : State) : Nat :=
  match s.tables.calendarActive with
  | none => weekdayOf s.calendar.day 0
  | some t => weekdayOf s.calendar.day t.offset

/-- Today's profile (R103, R110); free while no CALENDAR table is active and today is no special day (log 21). -/
def State.profileToday (s : State) : Nat :=
  match specialProfile s.calendar.specialDays s.calendar.day with
  | some p => p
  | none =>
    match s.tables.calendarActive with
    | none => Config.profileWithoutTable.toNat
    | some t => t.week.getD (weekdayOf s.calendar.day t.offset) 0

/-- Whether today's profile comes from the special-day list, 0, or from the week map, 1 (R103, R170, log 19); free while no
CALENDAR table is active and today is no special day (log 21). -/
def State.profileOrigin (s : State) : Byte :=
  if (specialProfile s.calendar.specialDays s.calendar.day).isSome then 0
  else
    match s.tables.calendarActive with
    | none => Config.originWithoutTable.setWidth 8
    | some _ => 1

def readClock (_ : List Byte) (s : State) : Reply :=
  let c := s.calendar
  s.okay
    ([markByte c.clockSet] ++ beBytes 2 c.day ++ beBytes 2 c.minute ++ beBytes 3 c.strobeCount ++ beBytes 1 s.weekday
      ++ beBytes 1 s.profileToday ++ [s.profileOrigin, bandByte c.band, bandSourceCode c.source]
      ++ beBytes 1 c.specialDays.length)

/-- READ CLOCK, 31h (R103). -/
def execReadClock (s : State) : Host.Outcome State Fault Refusal := .next (s.execute 0x31#8 (lengthIs 0) readClock)

/-! ### The special-day list (R105 to R108) -/

/-- A new entry at its place in day order (R106). -/
def insertDay (d : SpecialDay) : List SpecialDay → List SpecialDay
  | [] => [d]
  | e :: rest => if d.day < e.day then d :: e :: rest else e :: insertDay d rest

/-- The profile of a listed day replaced (R106). -/
def replaceDay (d : SpecialDay) (l : List SpecialDay) : List SpecialDay := l.map (fun e => if e.day = d.day then d else e)

def isListed (day : Nat) (l : List SpecialDay) : Bool := l.any (fun e => e.day == day)

/-- The list replaced, and the band in force evaluated (R106, R107). -/
def State.editDays (s : State) (l : List SpecialDay) : State :=
  ({ s with calendar := { s.calendar with specialDays := l } }).evaluate

def addSpecialDay (p : List Byte) (s : State) : Reply :=
  let d : SpecialDay := { day := beNat (p.take 2), profile := beNat (p.drop 2) }
  let l := s.calendar.specialDays
  if 7 < d.profile then s.refuse .refusedRange
  else if s.calendar.clockSet = true ∧ d.day < s.calendar.day then s.refuse .refusedRange
  else if isListed d.day l then (s.editDays (replaceDay d l)).okay []
  else if Config.specialDayDepth ≤ l.length then s.refuse .listFull
  else (s.editDays (insertDay d l)).okay []

/-- ADD SPECIAL DAY, 32h (R106). -/
def execAddSpecialDay (s : State) : Host.Outcome State Fault Refusal :=
  .next (s.execute 0x32#8 (lengthIs 3) addSpecialDay)

def removeSpecialDay (p : List Byte) (s : State) : Reply :=
  let day := beNat p
  let l := s.calendar.specialDays
  if isListed day l then (s.editDays (l.filter (fun e => e.day != day))).okay [] else s.refuse .notFound

/-- REMOVE SPECIAL DAY, 33h (R107). -/
def execRemoveSpecialDay (s : State) : Host.Outcome State Fault Refusal :=
  .next (s.execute 0x33#8 (lengthIs 2) removeSpecialDay)

def readSpecialDays (_ : List Byte) (s : State) : Reply :=
  let l := s.calendar.specialDays
  s.okay (beBytes 1 l.length ++ (l.map (fun e => beBytes 2 e.day ++ beBytes 1 e.profile)).flatten)

/-- READ SPECIAL DAYS, 34h (R108). -/
def execReadSpecialDays (s : State) : Host.Outcome State Fault Refusal :=
  .next (s.execute 0x34#8 (lengthIs 0) readSpecialDays)

end Sys2Proof.Machine
end

