-- ==== Sys2Proof/Machine/CaptureCommands.lean ====
section
/-!
DEFINITION. The commands of the capture unit (chapter 11).
-/

namespace Sys2Proof.Machine

def captureModeOf (b : Byte) : Option CaptureMode :=
  if b = 0 then some .once else if b = 1 then some .rearm else if b = 2 then some .stream else none

/-- An accepted CAPTURE ARM (R171). -/
def Capture.arm (u : Capture) (mode : CaptureMode) (count decimation : Nat) : Capture :=
  { u with
    state := .armed, mode := mode, decimation := decimation, base := count + 1, current := count + 1, source := .none,
    sourceIndex := none }

def captureArm (p : List Byte) (s : State) : Reply :=
  let count := beNat ((p.drop 1).take 2)
  let decimation := beNat (p.drop 3)
  if s.engine.state = .failsafe ∨ s.capture.state ≠ .idle then s.refuse .refusedState
  else
    match captureModeOf (p.getD 0 0) with
    | none => s.refuse .refusedRange
    | some mode =>
      if 4095 < count ∨ decimation = 0 ∨ 256 < decimation then s.refuse .refusedRange
      else State.okay { s with capture := s.capture.arm mode count decimation } []

/-- CAPTURE ARM, 50h (R171). -/
def execCaptureArm (s : State) : Host.Outcome State Fault Refusal :=
  .next (s.execute 0x50#8 (lengthIs 5) captureArm)

/-- An executed CAPTURE TRIGGER (R172); the decimation count is 0 on entry to RUNNING (R173). -/
def Capture.trigger (u : Capture) : Capture :=
  { u with state := .running, source := .command, sourceIndex := none, decimationCount := 0 }

def captureTrigger (_ : List Byte) (s : State) : Reply :=
  if s.capture.state = .armed then State.okay { s with capture := s.capture.trigger } [] else s.refuse .refusedState

/-- CAPTURE TRIGGER, 51h (R172). -/
def execCaptureTrigger (s : State) : Host.Outcome State Fault Refusal :=
  .next (s.execute 0x51#8 (lengthIs 0) captureTrigger)

def captureStop (_ : List Byte) (s : State) : Reply :=
  if s.capture.state = .idle then s.refuse .refusedState
  else State.okay { s with capture := { s.capture with state := .idle } } []

/-- CAPTURE STOP, 52h (R175). -/
def execCaptureStop (s : State) : Host.Outcome State Fault Refusal :=
  .next (s.execute 0x52#8 (lengthIs 0) captureStop)

def readCaptureStatus (_ : List Byte) (s : State) : Reply :=
  let u := s.capture
  s.okay
    ([captureStateCode u.state, captureModeCode u.mode] ++ beBytes 2 u.base ++ beBytes 2 u.current ++ beBytes 2 u.decimation
      ++ beBytes 1 u.decimationCount ++ [triggerSourceCode u.source] ++ optionalIndex u.sourceIndex
      ++ beBytes 1 u.queue.length ++ beBytes 4 u.overrun)

/-- READ CAPTURE STATUS, 53h (R175). -/
def execReadCaptureStatus (s : State) : Host.Outcome State Fault Refusal :=
  .next (s.execute 0x53#8 (lengthIs 0) readCaptureStatus)

end Sys2Proof.Machine
end

