-- ==== Sys2Proof/Machine/DemandCommands.lean ====
section
/-!
DEFINITION. The commands of the demand unit (chapter 7).
-/

namespace Sys2Proof.Machine

/-- The current records copied to the previous ones and cleared, and the reset count incremented (R125). -/
def Demand.resetRecords (d : Demand) : Demand :=
  { d with previous := d.records, records := recordsZero, resetCount := satInc top16 d.resetCount }

/-- The restart of a ONE_SHOT interval (R126). -/
def State.restartOneShot (s : State) : State :=
  if s.demandMode = .oneShot then
    match s.demand.state with
    | .running | .done => s.beginInterval false true
    | .ending => { s with demand := { s.demand with restartPending := true } }
    | .idle => s
  else s

def resetDemand (_ : List Byte) (s : State) : Reply :=
  State.okay (({ s with demand := s.demand.resetRecords }).restartOneShot) []

/-- RESET DEMAND, 39h (R125). -/
def execResetDemand (s : State) : Host.Outcome State Fault Refusal :=
  .next (s.execute 0x39#8 (lengthIs 0) resetDemand)

/-- Eight records, bands 0 to 7 (R127). -/
def recordsBytes (v : Vector DemandRecord 8) : List Byte :=
  (v.toList.map (fun r => beBytes 4 r.value ++ beBytes 2 r.day ++ beBytes 2 r.minute)).flatten

/-- DI in use as READ DEMAND gives it; free while no METER table is active (log 22). -/
def State.intervalShown (s : State) : Nat :=
  match s.tables.meterActive with
  | none => Config.intervalWithoutTable.toNat
  | some m => m.di

/-- What follows the reset count on a page (R127). -/
def State.demandPage (s : State) (n : Nat) : Option (List Byte) :=
  let d := s.demand
  match n with
  | 0 =>
    some ([demandModeCode s.demandMode] ++ beBytes 1 s.intervalShown
      ++ [intervalCode d.state, markByte d.partialMark, markByte d.restartPending]
      ++ beBytes 3 d.base ++ beBytes 3 d.current ++ beBytes 8 d.sums.imp ++ beBytes 8 d.sums.exp
      ++ beBytes 2 d.stampDay ++ beBytes 2 d.stampMinute)
  | 1 => some (recordsBytes d.records.imp)
  | 2 => some (recordsBytes d.records.exp)
  | 3 => some (recordsBytes d.previous.imp)
  | 4 => some (recordsBytes d.previous.exp)
  | _ => none

def readDemand (p : List Byte) (s : State) : Reply :=
  match s.demandPage (p.getD 0 0).toNat with
  | some data => s.okay (beBytes 2 s.demand.resetCount ++ data)
  | none => s.refuse .refusedRange

/-- READ DEMAND, 38h (R127). -/
def execReadDemand (s : State) : Host.Outcome State Fault Refusal :=
  .next (s.execute 0x38#8 (lengthIs 1) readDemand)

end Sys2Proof.Machine
end

