-- ==== Sys2Proof/Machine/DeviceEvents.lean ====
section
/-!
DEFINITION. The steps of the device as a whole and of its clocks: the power-on reset, the minute rollover, the demand
counter's terminal count, the SET TIME notice and the watchdog's expiry.
-/

namespace Sys2Proof.Machine

/-- The device while the power-on reset is applied (R1). The queue of steps and the count of free choices are the model's
own and are kept. -/
def State.powerOnReset (s : State) : State :=
  { State.reset with resetApplied := true, freeChoices := s.freeChoices, pending := s.pending }

/-- POWER_ON_RESET (R1). -/
def execPowerOnReset (s : State) : Host.Outcome State Fault Refusal := .next s.powerOnReset

/-- POWER_ON_RESET_ENDS (R1). -/
def execPowerOnResetEnds (s : State) : Host.Outcome State Fault Refusal := .next { s with resetApplied := false }

/-- MINUTE_ROLLOVER (R98). -/
def execMinuteRollover (s : State) : Host.Outcome State Fault Refusal := .next (s.unlessReset State.takeRollover)

/-- TERMINAL_COUNT (R119). -/
def execTerminalCount (s : State) : Host.Outcome State Fault Refusal := .next (s.unlessReset State.takeTerminal)

/-- SET_TIME_NOTICE (R122). -/
def execSetTimeNotice (s : State) : Host.Outcome State Fault Refusal := .next (s.after State.takeNotice)

/-- WATCHDOG_EXPIRY (R151). -/
def execWatchdogExpiry (s : State) : Host.Outcome State Fault Refusal := .next (s.after State.takeExpiry)

end Sys2Proof.Machine
end

