-- ==== Sys2Proof/Machine/EngineCommands.lean ====
section
/-!
DEFINITION. The commands of the netting engine (chapter 4).
-/

namespace Sys2Proof.Machine

/-- START (R54). -/
def start (_ : List Byte) (s : State) : Reply :=
  if s.engine.state ≠ .config then s.refuse .refusedState
  else if s.tables.calActive = none ∨ s.tables.meterActive = none then s.refuse .notReady
  else s.startMetering.okay []

/-- START, 10h (R54). -/
def execStart (s : State) : Host.Outcome State Fault Refusal := .next (s.execute 0x10#8 (lengthIs 0) start)

/-- STOP (R55). -/
def stop (_ : List Byte) (s : State) : Reply :=
  if s.engine.state = .config then s.refuse .refusedState else s.stopMetering.okay []

/-- STOP, 11h (R55). -/
def execStop (s : State) : Host.Outcome State Fault Refusal := .next (s.execute 0x11#8 (lengthIs 0) stop)

/-- RESUME (R57). -/
def resume (_ : List Byte) (s : State) : Reply :=
  if s.engine.state = .failsafe then s.resumeMetering.okay [] else s.refuse .refusedState

/-- RESUME, 12h (R57). -/
def execResume (s : State) : Host.Outcome State Fault Refusal := .next (s.execute 0x12#8 (lengthIs 0) resume)

/-- ENGINE RESET (R58). -/
def engineReset (_ : List Byte) (s : State) : Reply := s.engineReset.okay []

/-- ENGINE RESET, 13h (R58). -/
def execEngineReset (s : State) : Host.Outcome State Fault Refusal :=
  .next (s.execute 0x13#8 (lengthIs 0) engineReset)

/-- The open window as READ WINDOW gives it (R80): zero values where none is open, and a zero stamp where it has not
opened (log 20). -/
def windowBytes (w : Option Window) : List Byte :=
  match w with
  | none => [0] ++ beBytes 3 0 ++ [0, 0] ++ beBytes 2 0 ++ beBytes 2 0 ++ ((PerPhase.all sumsZero).toList.map PhaseSums.bytes).flatten
  | some w =>
    [1] ++ beBytes 3 w.count ++ [bandByte w.band]
      ++ (match w.opening with
          | none => [0] ++ beBytes 2 0 ++ beBytes 2 0
          | some o => [1] ++ beBytes 2 o.day ++ beBytes 2 o.minute)
      ++ (w.sums.toList.map PhaseSums.bytes).flatten

/-- READ WINDOW (R80). -/
def readWindow (_ : List Byte) (s : State) : Reply :=
  s.okay ([engineCode s.engine.state] ++ windowBytes s.engine.window ++ s.engine.summary.bytes)

/-- READ WINDOW, 14h (R80). -/
def execReadWindow (s : State) : Host.Outcome State Fault Refusal :=
  .next (s.execute 0x14#8 (lengthIs 0) readWindow)

/-- A phase's last non-IDLE direction and reversal counter (R81). -/
def directionBytes (e : Engine) (x : Phase) : List Byte :=
  lastDirectionCode (e.lastDirection.get x) :: beBytes 4 (e.reversals.get x)

/-- A cycle memory's fill count, run count and estimated-set counter (R81). -/
def CycleMemory.bytes (m : CycleMemory) : List Byte :=
  beBytes 1 m.codes.length ++ beBytes 2 m.runCount ++ beBytes 4 m.estimated

/-- READ COUNTERS (R81). That a condition, UNMETERED or LOW_VOLTAGE_x, travels as a mark, 1 for true, is DEDUCED (log 19). -/
def readCounters (_ : List Byte) (s : State) : Reply :=
  let e := s.engine
  s.okay
    (directionBytes e .a ++ directionBytes e .b ++ directionBytes e .c
      ++ beBytes 4 e.unmeteredCount ++ [markByte e.unmetered]
      ++ [exportCode e.exportState] ++ beBytes 1 e.consecutive
      ++ beBytes 4 e.sequence
      ++ e.lowVoltage.toList.map markByte
      ++ (s.aligner.cycles.toList.map CycleMemory.bytes).flatten)

/-- READ COUNTERS, 15h (R81). -/
def execReadCounters (s : State) : Host.Outcome State Fault Refusal :=
  .next (s.execute 0x15#8 (lengthIs 0) readCounters)

end Sys2Proof.Machine
end

