-- ==== Sys2Proof/Machine/LaneCommands.lean ====
section
/-!
DEFINITION. READ LANES (chapter 1) and the lane test's commands (chapter 11).
-/

namespace Sys2Proof.Machine

/-! ### READ LANES (R19) -/

/-- A channel's stuck state and equal run. -/
def Detector.bytes (d : Detector) : List Byte := stuckCode d.stuck :: beBytes 2 d.equalRun

/-- The eight counters of R17. -/
def LaneCounters.bytes (c : LaneCounters) : List Byte :=
  beBytes 4 c.accepted ++ beBytes 4 c.crcErrors ++ beBytes 4 c.sequenceErrors ++ beBytes 4 c.late ++ beBytes 4 c.resyncs
    ++ beBytes 4 c.restarts ++ beBytes 4 c.lost ++ beBytes 4 c.overrange

/-- What READ LANES gives of one lane (R19). -/
def Lane.bytes (l : Lane) : List Byte :=
  [laneStateCode l.state] ++ beBytes 1 l.queue.length ++ beBytes 1 l.presentRun ++ beBytes 1 l.absentRun
    ++ beBytes 1 l.sequenceRun ++ beBytes 2 l.periodPosition ++ beBytes 2 l.periodErrors ++ beBytes 2 l.lastPeriodErrors
    ++ l.voltage.bytes ++ l.current.bytes ++ l.counters.bytes

def readLanes (_ : List Byte) (s : State) : Reply := s.okay ((s.lanes.toList.map Lane.bytes).flatten)

/-- READ LANES, 01h (R19). -/
def execReadLanes (s : State) : Host.Outcome State Fault Refusal := .next (s.execute 0x01#8 (lengthIs 0) readLanes)

/-! ### LINK TEST START (R177) -/

def patternOf (b : Byte) : Option Pattern :=
  if b = 0 then some .prbs15 else if b = 1 then some .fixed else none

def timebaseOf (b : Byte) : Option Timebase :=
  if b = 0 then some .continuous
  else if b = 1 then some .pow16
  else if b = 2 then some .pow20
  else if b = 3 then some .pow24
  else none

/-- A mark parameter: 0 or 1. -/
def markOf (b : Byte) : Option Bool := if b = 0 then some false else if b = 1 then some true else none

/-- The parameters of LINK TEST START. -/
structure TestSettings where
  lane      : Phase
  pattern   : Pattern
  invert    : Bool
  syncMask  : Bool
  timebase  : Timebase
  limitCode : Byte
  fixedWord : BitVec 48
  deriving DecidableEq, Repr

/-- The settings that the parameters name; none where one is outside its numbering (R177). -/
def testSettings (p : List Byte) : Option TestSettings :=
  match phaseOf (p.getD 0 0).toNat, patternOf (p.getD 1 0), markOf (p.getD 2 0), markOf (p.getD 3 0),
    timebaseOf (p.getD 4 0) with
  | some x, some pattern, some invert, some mask, some timebase =>
    some { lane := x, pattern := pattern, invert := invert, syncMask := mask, timebase := timebase,
           limitCode := p.getD 5 0, fixedWord := BitVec.ofNat 48 (beNat (p.drop 6)) }
  | _, _, _, _, _ => none

/-- The context that an accepted LINK TEST START sets. The generator keeps the value it holds until the seed frame loads
it (log 24). -/
def Checker.start (c : Checker) (t : TestSettings) : Checker :=
  { c with
    state := .seeding, pattern := t.pattern, invert := t.invert, syncMask := t.syncMask, timebase := t.timebase,
    limitCode := t.limitCode, fixedWord := t.fixedWord, expected := none, goodRun := 0, badRun := 0, running := 0,
    lastResult := 0, resultValid := false, failMark := false, timebaseCount := 0, timebaseBegun := false, syncLosses := 0 }

/-- The TEST_ENTER of a test (R177). -/
def TestSettings.enterFrame (t : TestSettings) : DownFrame :=
  { kind := .testEnter, lane := t.lane
    index := match t.pattern with
      | .prbs15 => 0
      | .fixed => 1
    data := match t.pattern with
      | .prbs15 => 0
      | .fixed => t.fixedWord }

/-- The lane enters TEST (R12). -/
def Lane.enterTest (l : Lane) (f : DownFrame) : Lane :=
  ({ l with state := .test, queue := [] }.clearRuns).send f

def linkTestStart (p : List Byte) (s : State) : Reply :=
  if s.engine.state ≠ .config then s.refuse .refusedState
  else
    match testSettings p with
    | none => s.refuse .refusedRange
    | some t =>
      if (s.lanes.get t.lane).state = .test then s.refuse .refusedState
      else
        State.okay
          (({ s with checkers := s.checkers.modify t.lane (fun c => c.start t) }).changeLane t.lane
            ((s.lanes.get t.lane).enterTest t.enterFrame)) []

/-- LINK TEST START, 58h (R177). -/
def execLinkTestStart (s : State) : Host.Outcome State Fault Refusal :=
  .next (s.execute 0x58#8 (lengthIs 12) linkTestStart)

/-! ### LINK TEST STOP and READ LINK TEST (R182) -/

/-- The lane leaves TEST at LINK TEST STOP (R12); entering OFF clears its detectors (R14). -/
def Lane.leaveTest (l : Lane) (x : Phase) (isEnabled : Bool) (exitIndex : StrobeIndex) : Lane :=
  let l := l.sendTestExit x exitIndex
  if isEnabled then l.enterSeek.restartHistories else { l.resetDetectors with state := .off }

def linkTestStop (p : List Byte) (s : State) : Reply :=
  match phaseOf (p.getD 0 0).toNat with
  | none => s.refuse .refusedRange
  | some x =>
    if (s.lanes.get x).state = .test then
      State.okay ((s.endLaneTest x).changeLane x ((s.lanes.get x).leaveTest x (s.enabled x) s.aligner.latestIndex)) []
    else s.refuse .refusedState

/-- LINK TEST STOP, 59h (R182). -/
def execLinkTestStop (s : State) : Host.Outcome State Fault Refusal :=
  .next (s.execute 0x59#8 (lengthIs 1) linkTestStop)

/-- What READ LINK TEST gives of a context (R182). -/
def Checker.bytes (c : Checker) : List Byte :=
  [checkerStateCode c.state, patternCode c.pattern, markByte c.invert, markByte c.syncMask, timebaseCode c.timebase,
   c.limitCode] ++ beBytes 6 c.fixedWord.toNat ++ beBytes 3 (limitOf c.limitCode) ++ beBytes 1 c.goodRun
    ++ beBytes 1 c.badRun ++ beBytes 5 c.running ++ beBytes 5 c.lastResult ++ [markByte c.resultValid]
    ++ beBytes 4 c.timebaseCount ++ [markByte c.failMark] ++ beBytes 2 c.syncLosses

def readLinkTest (p : List Byte) (s : State) : Reply :=
  match phaseOf (p.getD 0 0).toNat with
  | none => s.refuse .refusedRange
  | some x => s.okay (s.checkers.get x).bytes

/-- READ LINK TEST, 5Ah (R182). -/
def execReadLinkTest (s : State) : Host.Outcome State Fault Refusal :=
  .next (s.execute 0x5A#8 (lengthIs 1) readLinkTest)

end Sys2Proof.Machine
end

