-- ==== Sys2Proof/Machine/LinkEvents.lean ====
section
/-!
DEFINITION. The steps of the meter link's two lines, and BAD_COMMAND, which the link port answers itself.
-/

namespace Sys2Proof.Machine

/-- COMMAND (R155). -/
def execCommand (frame : LineFrame) (s : State) : Host.Outcome State Fault Refusal :=
  .next (s.after (fun s => s.downlinkFrame frame))

/-- PAUSE (R155, R156). -/
def execPause (frame : LineFrame) (s : State) : Host.Outcome State Fault Refusal :=
  .next (s.after (fun s => s.downlinkFrame frame))

/-- RESUME_FLOW (R155, R156). -/
def execResumeFlow (frame : LineFrame) (s : State) : Host.Outcome State Fault Refusal :=
  .next (s.after (fun s => s.downlinkFrame frame))

/-- SCHEDULER_CHOICE (R162). -/
def execSchedulerChoice (s : State) : Host.Outcome State Fault Refusal := .next (s.after State.choose)

/-- DOWNLINK_LINE_IDLE (R154). -/
def execDownlinkLineIdle (s : State) : Host.Outcome State Fault Refusal := .next (s.after State.downlinkIdleLine)

/-- BAD_COMMAND (R157). -/
def execBadCommand (s : State) : Host.Outcome State Fault Refusal := .next s.executeUnknown

end Sys2Proof.Machine
end

