-- ==== Sys2Proof/Machine/MonitorCommands.lean ====
section
/-!
DEFINITION. The commands of the fault monitor (chapter 9).
-/

namespace Sys2Proof.Machine

/-- The watchdog limit as READ FLAGS gives it; free while no METER table is active (log 22). -/
def State.limitShown (s : State) : Nat :=
  match s.tables.meterActive with
  | none => Config.watchdogLimitWithoutTable.toNat
  | some m => m.watchdog * Config.strobesPerSecond

/-- What READ FLAGS gives (R145). That "whether the urgent slot holds a waiting notice" travels as a mark, 1 for a waiting one, is
DEDUCED (log 19). -/
def readFlags (_ : List Byte) (s : State) : Reply :=
  let m := s.monitor
  s.okay
    (flagSetBytes m.latched ++ flagSetBytes m.conditions ++ flagSetBytes m.mask ++ [markByte m.alert]
      ++ [watchdogCode m.watchdogRunning] ++ beBytes 3 m.watchdogCount ++ beBytes 3 s.limitShown
      ++ [markByte s.link.urgent.isSome])

/-- READ FLAGS, 48h (R145). -/
def execReadFlags (s : State) : Host.Outcome State Fault Refusal := .next (s.execute 0x48#8 (lengthIs 0) readFlags)

/-- The named flags are cleared, but for conditions that are true (R142). -/
def Monitor.clear (m : Monitor) (named : FlagSet) : Monitor :=
  { m with latched := m.latched &&& ~~~(named &&& ~~~m.conditions) }.formAlert

def clearFlags (p : List Byte) (s : State) : Reply :=
  let named := flagSetOf p
  if named &&& unnamedFlags ≠ 0#48 then s.refuse .refusedRange
  else
    let s := { s with monitor := s.monitor.clear named }
    s.okay (flagSetBytes (named &&& s.monitor.latched))

/-- CLEAR FLAGS, 49h (R142). -/
def execClearFlags (s : State) : Host.Outcome State Fault Refusal :=
  .next (s.execute 0x49#8 (lengthIs 6) clearFlags)

/-- The mask set replaced (R143). -/
def Monitor.setMask (m : Monitor) (mask : FlagSet) : Monitor := { m with mask := mask }.formAlert

def setMask (p : List Byte) (s : State) : Reply :=
  let mask := flagSetOf p
  if mask &&& unnamedFlags ≠ 0#48 then s.refuse .refusedRange
  else State.okay { s with monitor := s.monitor.setMask mask } []

/-- SET MASK, 4Ah (R143). -/
def execSetMask (s : State) : Host.Outcome State Fault Refusal := .next (s.execute 0x4A#8 (lengthIs 6) setMask)

end Sys2Proof.Machine
end

