-- ==== Sys2Proof/Machine/SamplePath.lean ====
section
/-!
DEFINITION. The steps of the sample path: strobe, frames, release, arithmetic, capture, netting, credits and the lane test's
timebase.
-/

namespace Sys2Proof.Machine

/-- STROBE (R22). -/
def execStrobe (s : State) : Host.Outcome State Fault Refusal := .next (s.after State.strobe)

/-- UP_DIRECTION_FRAME (R3). -/
def execUpDirectionFrame (lane : Phase) (frame : LineFrame) (s : State) : Host.Outcome State Fault Refusal :=
  .next (s.after (fun s => s.receiveFrame lane frame))

/-- SET_RELEASE (R24). -/
def execSetRelease (s : State) : Host.Outcome State Fault Refusal := .next (s.after State.releaseIfDue)

/-- QUALITY_PERIOD_END (R13). -/
def execQualityPeriodEnd (lane : Phase) (s : State) : Host.Outcome State Fault Refusal :=
  .next (s.unlessReset (fun s => s.takePeriodEnd lane))

/-- ARITHMETIC_STEP (R38). -/
def execArithmeticStep (s : State) : Host.Outcome State Fault Refusal := .next (s.after State.takeReleased)

/-- CAPTURE_TERMINAL_COUNT (R173). -/
def execCaptureTerminalCount (s : State) : Host.Outcome State Fault Refusal :=
  .next (s.unlessReset State.takeCaptureTerminal)

/-- SET_PROCESSING (R61). -/
def execSetProcessing (s : State) : Host.Outcome State Fault Refusal := .next (s.after State.takeCompleted)

/-- FORCED_CLOSE_REQUEST (R64). -/
def execForcedCloseRequest (cause : ForcedCause) (s : State) : Host.Outcome State Fault Refusal :=
  .next (s.after (fun s => s.takeRequest cause))

/-- DEMAND_CREDIT (R121). -/
def execDemandCredit (s : State) : Host.Outcome State Fault Refusal := .next (s.after State.takeCredit)

/-- TIMEBASE_END (R181). -/
def execTimebaseEnd (lane : Phase) (s : State) : Host.Outcome State Fault Refusal :=
  .next (s.unlessReset (fun s => s.takeTimebaseEnd lane))

end Sys2Proof.Machine
end

