-- ==== Sys2Proof/Machine/TableCommands.lean ====
section
/-!
DEFINITION. The commands of the table store (chapter 8).
-/

namespace Sys2Proof.Machine

/-! ### READ TABLE (R132) -/

/-- The entries of a copy, none for an invalid active copy: copy 0 is the pending one, 1 the active one (R132, R169). -/
def Tables.copyEntries (t : Tables) (name : TableName) (copy : Nat) : Option (List (List Byte)) :=
  if copy = 0 then some (t.pendingEntries name) else t.activeEntries name

/-- The request mark, the valid mark, the CRC and the named entries; an invalid copy reads as zero entries with a CRC field of
zero (R132). That a pending copy reads as valid is DEDUCED (log 32), and so is that "outstanding or not" travels as a mark, 1 for
outstanding (log 19). -/
def Tables.readData (t : Tables) (name : TableName) (copy first count : Nat) : List Byte :=
  let named (l : List (List Byte)) : List Byte := ((l.drop first).take count).flatten
  match t.copyEntries name copy with
  | some l => [markByte (t.request name), markByte true] ++ beBytes 2 (crc16 (image l)).toNat ++ named l
  | none =>
    [markByte (t.request name), markByte false] ++ beBytes 2 0 ++ List.replicate (named (t.pendingEntries name)).length 0

def readTable (p : List Byte) (s : State) : Reply :=
  let copy := (p.getD 1 0).toNat
  let first := (p.getD 2 0).toNat
  let count := (p.getD 3 0).toNat
  match tableOf (p.getD 0 0) with
  | none => s.refuse .refusedRange
  | some name =>
    if 1 < copy ∨ count = 0 ∨ entryLimit name < first + count
        ∨ 112 < (((s.tables.pendingEntries name).drop first).take count).flatten.length then s.refuse .refusedRange
    else s.okay (s.tables.readData name copy first count)

/-- READ TABLE, 40h (R132). -/
def execReadTable (s : State) : Host.Outcome State Fault Refusal := .next (s.execute 0x40#8 (lengthIs 4) readTable)

/-! ### WRITE TABLE (R131, R133) -/

/-- The length of WRITE TABLE is 2 plus one or more whole entries; for a table byte that names no table, 3 or more (R169). -/
def writeLength (p : List Byte) : Bool :=
  if p.length < 3 then false
  else
    match tableOf (p.getD 0 0) with
    | none => true
    | some name => (wholeEntries name (p.getD 1 0).toNat (p.length - 2)).isSome

/-- How many entries a WRITE TABLE of right length carries. -/
def writeCount (name : TableName) (first len : Nat) : Nat := (wholeEntries name first len).getD 0

/-- Every enabled mark of written TRIGGER entries is 0 or 1 (R133). -/
def enabledMarksLegal (bytes : List Byte) : Bool :=
  (pieces 5 bytes.length bytes).all (fun b => b.getD 0 0 == 0 || b.getD 0 0 == 1)

/-- WRITE TABLE of TRIGGER (R133). -/
def writeTrigger (first : Nat) (bytes : List Byte) (s : State) : Reply :=
  if s.capture.state ≠ .idle then s.refuse .refusedState
  else if entryLimit .trigger < first + writeCount .trigger first bytes.length then s.refuse .refusedRange
  else if enabledMarksLegal bytes then State.okay { s with tables := s.tables.write .trigger first bytes } []
  else s.refuse .refusedRange

/-- WRITE TABLE of a staged table (R131). -/
def writeStaged (name : TableName) (first : Nat) (bytes : List Byte) (s : State) : Reply :=
  if entryLimit name < first + writeCount name first bytes.length then s.refuse .refusedRange
  else if s.tables.request name then s.refuse .staged
  else State.okay { s with tables := s.tables.write name first bytes } []

def writeTable (p : List Byte) (s : State) : Reply :=
  match tableOf (p.getD 0 0) with
  | none => s.refuse .refusedRange
  | some .trigger => writeTrigger (p.getD 1 0).toNat (p.drop 2) s
  | some .cal => writeStaged .cal (p.getD 1 0).toNat (p.drop 2) s
  | some .meter => writeStaged .meter (p.getD 1 0).toNat (p.drop 2) s
  | some .calendar => writeStaged .calendar (p.getD 1 0).toNat (p.drop 2) s

/-- WRITE TABLE, 41h (R131). -/
def execWriteTable (s : State) : Host.Outcome State Fault Refusal := .next (s.execute 0x41#8 writeLength writeTable)

/-! ### APPLY TABLE (R134, R135, R136) -/

/-- The table store's choice of one table. -/
def TableName.only : TableName → TableChoice
  | .cal => { cal := true, meter := false, calendar := false }
  | .meter => { cal := false, meter := true, calendar := false }
  | .calendar => { cal := false, meter := false, calendar := true }
  | .trigger => { cal := false, meter := false, calendar := false }

/-- An apply request for a table is recorded; one that stands stays as it is (R136). -/
def Tables.setRequest (t : Tables) (name : TableName) (v : Bool) : Tables :=
  match name with
  | .cal => { t with calRequest := v }
  | .meter => { t with meterRequest := v }
  | .calendar => { t with calendarRequest := v }
  | .trigger => t

/-- The CRC of the pending copy's canonical image (R134). -/
def Tables.pendingCrc (t : Tables) (name : TableName) : BitVec 16 := crc16 (image (t.pendingEntries name))

/-- The index of the first field that an install clamps, as data: an index, or that there is none (R136, R170, log 20). -/
def clampedData (first : Option Nat) : List Byte :=
  match first with
  | some i => 1 :: beBytes 1 i
  | none => 0 :: beBytes 1 0

/-- An APPLY TABLE that has passed the checks (R136). -/
def acceptApply (name : TableName) (s : State) : Reply :=
  let first := s.tables.firstClamped name
  if s.engine.state = .config then
    { state := s.install name.only s.calendar.band
      status := match first with
        | some _ => .clamped
        | none => .ok
      data := match first with
        | some i => beBytes 1 i
        | none => [] }
  else
    { state := { s with tables := s.tables.setRequest name true }, status := .staged, data := clampedData first }

/-- The checks of APPLY TABLE from the state on (R134). -/
def applyStaged (name : TableName) (crc : BitVec 16) (s : State) : Reply :=
  if s.engine.state = .failsafe then s.refuse .refusedState
  else if s.tables.pendingCrc name ≠ crc then
    { state := s, status := .crcMismatch, data := beBytes 2 (s.tables.pendingCrc name).toNat }
  else
    match s.tables.pendingFault name with
    | some (i, k) => { state := s, status := .invalidTable, data := beBytes 1 i ++ [faultKindCode k] }
    | none => acceptApply name s

def applyTable (p : List Byte) (s : State) : Reply :=
  let crc := BitVec.ofNat 16 (beNat (p.drop 1))
  match tableOf (p.getD 0 0) with
  | none => s.refuse .refusedRange
  | some .trigger => s.refuse .refusedRange
  | some .cal => applyStaged .cal crc s
  | some .meter => applyStaged .meter crc s
  | some .calendar => applyStaged .calendar crc s

/-- APPLY TABLE, 42h (R134). -/
def execApplyTable (s : State) : Host.Outcome State Fault Refusal :=
  .next (s.execute 0x42#8 (lengthIs 3) applyTable)

/-! ### CANCEL APPLY (R139) -/

/-- CANCEL APPLY of a staged table (R139). -/
def cancelStaged (name : TableName) (s : State) : Reply :=
  if s.tables.request name then State.okay { s with tables := s.tables.setRequest name false } []
  else s.refuse .notFound

def cancelApply (p : List Byte) (s : State) : Reply :=
  match tableOf (p.getD 0 0) with
  | none => s.refuse .refusedRange
  | some .trigger => s.refuse .refusedRange
  | some .cal => cancelStaged .cal s
  | some .meter => cancelStaged .meter s
  | some .calendar => cancelStaged .calendar s

/-- CANCEL APPLY, 43h (R139). -/
def execCancelApply (s : State) : Host.Outcome State Fault Refusal :=
  .next (s.execute 0x43#8 (lengthIs 1) cancelApply)

end Sys2Proof.Machine
end

