-- ==== Sys2Proof/Machine/Dispatch.lean ====
section
/-!
DEFINITION. One arm per step: each calls the meaning of its own.
-/

namespace Sys2Proof.Machine

def exec (i : Instr) (s : State) : Host.Outcome State Fault Refusal :=
  match i with
  | .powerOnReset => Sys2Proof.Machine.execPowerOnReset s
  | .strobe => Sys2Proof.Machine.execStrobe s
  | .upDirectionFrame lane frame => Sys2Proof.Machine.execUpDirectionFrame lane frame s
  | .setRelease => Sys2Proof.Machine.execSetRelease s
  | .qualityPeriodEnd lane => Sys2Proof.Machine.execQualityPeriodEnd lane s
  | .arithmeticStep => Sys2Proof.Machine.execArithmeticStep s
  | .captureTerminalCount => Sys2Proof.Machine.execCaptureTerminalCount s
  | .setProcessing => Sys2Proof.Machine.execSetProcessing s
  | .forcedCloseRequest cause => Sys2Proof.Machine.execForcedCloseRequest cause s
  | .demandCredit => Sys2Proof.Machine.execDemandCredit s
  | .minuteRollover => Sys2Proof.Machine.execMinuteRollover s
  | .terminalCount => Sys2Proof.Machine.execTerminalCount s
  | .setTimeNotice => Sys2Proof.Machine.execSetTimeNotice s
  | .watchdogExpiry => Sys2Proof.Machine.execWatchdogExpiry s
  | .timebaseEnd lane => Sys2Proof.Machine.execTimebaseEnd lane s
  | .command frame => Sys2Proof.Machine.execCommand frame s
  | .pause frame => Sys2Proof.Machine.execPause frame s
  | .resumeFlow frame => Sys2Proof.Machine.execResumeFlow frame s
  | .schedulerChoice => Sys2Proof.Machine.execSchedulerChoice s
  | .readLanes => Sys2Proof.Machine.execReadLanes s
  | .start => Sys2Proof.Machine.execStart s
  | .stop => Sys2Proof.Machine.execStop s
  | .resume => Sys2Proof.Machine.execResume s
  | .engineReset => Sys2Proof.Machine.execEngineReset s
  | .readWindow => Sys2Proof.Machine.execReadWindow s
  | .readCounters => Sys2Proof.Machine.execReadCounters s
  | .readBank => Sys2Proof.Machine.execReadBank s
  | .snapshot => Sys2Proof.Machine.execSnapshot s
  | .readSnapshot => Sys2Proof.Machine.execReadSnapshot s
  | .preload => Sys2Proof.Machine.execPreload s
  | .setTime => Sys2Proof.Machine.execSetTime s
  | .readClock => Sys2Proof.Machine.execReadClock s
  | .addSpecialDay => Sys2Proof.Machine.execAddSpecialDay s
  | .removeSpecialDay => Sys2Proof.Machine.execRemoveSpecialDay s
  | .readSpecialDays => Sys2Proof.Machine.execReadSpecialDays s
  | .readDemand => Sys2Proof.Machine.execReadDemand s
  | .resetDemand => Sys2Proof.Machine.execResetDemand s
  | .readTable => Sys2Proof.Machine.execReadTable s
  | .writeTable => Sys2Proof.Machine.execWriteTable s
  | .applyTable => Sys2Proof.Machine.execApplyTable s
  | .cancelApply => Sys2Proof.Machine.execCancelApply s
  | .readFlags => Sys2Proof.Machine.execReadFlags s
  | .clearFlags => Sys2Proof.Machine.execClearFlags s
  | .setMask => Sys2Proof.Machine.execSetMask s
  | .captureArm => Sys2Proof.Machine.execCaptureArm s
  | .captureTrigger => Sys2Proof.Machine.execCaptureTrigger s
  | .captureStop => Sys2Proof.Machine.execCaptureStop s
  | .readCaptureStatus => Sys2Proof.Machine.execReadCaptureStatus s
  | .linkTestStart => Sys2Proof.Machine.execLinkTestStart s
  | .linkTestStop => Sys2Proof.Machine.execLinkTestStop s
  | .readLinkTest => Sys2Proof.Machine.execReadLinkTest s
  | .powerOnResetEnds => Sys2Proof.Machine.execPowerOnResetEnds s
  | .downlinkLineIdle => Sys2Proof.Machine.execDownlinkLineIdle s
  | .badCommand => Sys2Proof.Machine.execBadCommand s

end Sys2Proof.Machine
end

