-- ==== Sys2Proof/Safety.lean ====
section
/-!
DEFINITION. The terms in which the statements speak: when a step runs, what an answer leaves, and the laws of the manual
that every state of a run keeps.
-/

namespace Sys2Proof

/-! ### Kinds of steps -/

/-- The rows that execute a command of the command table, with their codes and parameter lengths (R169); WRITE TABLE has a
length of its own. -/
def Instr.fixedCommand : Instr → Option (Byte × Nat)
  | .readLanes => some (0x01#8, 0)
  | .start => some (0x10#8, 0)
  | .stop => some (0x11#8, 0)
  | .resume => some (0x12#8, 0)
  | .engineReset => some (0x13#8, 0)
  | .readWindow => some (0x14#8, 0)
  | .readCounters => some (0x15#8, 0)
  | .readBank => some (0x20#8, 1)
  | .snapshot => some (0x21#8, 0)
  | .readSnapshot => some (0x22#8, 1)
  | .preload => some (0x23#8, 10)
  | .setTime => some (0x30#8, 7)
  | .readClock => some (0x31#8, 0)
  | .addSpecialDay => some (0x32#8, 3)
  | .removeSpecialDay => some (0x33#8, 2)
  | .readSpecialDays => some (0x34#8, 0)
  | .readDemand => some (0x38#8, 1)
  | .resetDemand => some (0x39#8, 0)
  | .readTable => some (0x40#8, 4)
  | .applyTable => some (0x42#8, 3)
  | .cancelApply => some (0x43#8, 1)
  | .readFlags => some (0x48#8, 0)
  | .clearFlags => some (0x49#8, 6)
  | .setMask => some (0x4A#8, 6)
  | .captureArm => some (0x50#8, 5)
  | .captureTrigger => some (0x51#8, 0)
  | .captureStop => some (0x52#8, 0)
  | .readCaptureStatus => some (0x53#8, 0)
  | .linkTestStart => some (0x58#8, 12)
  | .linkTestStop => some (0x59#8, 1)
  | .readLinkTest => some (0x5A#8, 1)
  | .writeTable | .badCommand | .powerOnReset | .strobe | .upDirectionFrame _ _ | .setRelease | .qualityPeriodEnd _
  | .arithmeticStep | .captureTerminalCount | .setProcessing | .forcedCloseRequest _ | .demandCredit | .minuteRollover
  | .terminalCount | .setTimeNotice | .watchdogExpiry | .timebaseEnd _ | .command _ | .pause _ | .resumeFlow _
  | .schedulerChoice | .powerOnResetEnds | .downlinkLineIdle => none

/-- The steps that come about at once where they are due, and those of the power-on reset: they do not take the others first
(log 3). -/
def Instr.standsAlone : Instr → Bool
  | .powerOnReset | .powerOnResetEnds | .qualityPeriodEnd _ | .captureTerminalCount | .timebaseEnd _ | .terminalCount
  | .minuteRollover => true
  | .strobe | .upDirectionFrame _ _ | .setRelease | .arithmeticStep | .setProcessing | .forcedCloseRequest _
  | .demandCredit | .setTimeNotice | .watchdogExpiry | .command _ | .pause _ | .resumeFlow _ | .schedulerChoice
  | .readLanes | .start | .stop | .resume | .engineReset | .readWindow | .readCounters | .readBank | .snapshot | .readSnapshot | .preload | .setTime
  | .readClock | .addSpecialDay | .removeSpecialDay | .readSpecialDays | .readDemand | .resetDemand | .readTable
  | .writeTable | .applyTable | .cancelApply | .readFlags | .clearFlags | .setMask | .captureArm | .captureTrigger
  | .captureStop | .readCaptureStatus | .linkTestStart | .linkTestStop | .readLinkTest | .downlinkLineIdle
  | .badCommand => false

end Sys2Proof

namespace Sys2Proof.Machine

/-! ### When a step runs -/

/-- The power-on reset is not applied, and no step that comes about at once is due. -/
def State.Ready (s : State) : Prop := s.resetApplied = false ∧ s.quiet = true

/-- The command `code :: params` is at the head of the command queue, a response slot is free (R157), and the device is
ready. -/
def State.Executes (s : State) (code : Byte) (params : List Byte) (rest : List (List Byte)) : Prop :=
  s.Ready ∧ s.link.commands = (code :: params) :: rest ∧ s.link.responses.length < Config.responseDepth

/-- The command at the head has left its queue, and its response has joined the response queue (R157). -/
def State.answered (s : State) (rest : List (List Byte)) (code : Byte) (status : Status) (data : List Byte) : State :=
  { s with link :=
    { s.link with
      commands := rest
      responses := s.link.responses ++ [{ code := code, status := status, data := data }] } }

/-- The state with the record of one lane replaced and nothing else. -/
def State.withLane (s : State) (x : Phase) (l : Lane) : State := { s with lanes := s.lanes.set x l }

/-- The state with the codes and the run count of one phase's cycle memory emptied and nothing else (R33). -/
def State.withEmptyMemory (s : State) (x : Phase) : State :=
  { s with
    aligner := { s.aligner with
      cycles := s.aligner.cycles.set x { s.aligner.cycles.get x with codes := [], runCount := 0 } } }

/-- The residue and the register of a chain after a share: the residue below the quantum, the register modulo 2^48
(R83, R84). -/
def ChainTakes (q residue register share residue' register' : Nat) : Prop :=
  residue' = (residue + share) % q ∧ register' = (register + (residue + share) / q) % 281474976710656

/-- Under the quantum `q`, some register of the bank passes 2^48 - 1 when the chains of the band `b` take the shares and the
gross chains take theirs (R84, R86). -/
def Accounts.Wraps (acc : Accounts) (q : Nat) (b : Band) (shares : Flows) (gross : PerPhase Flows) : Prop :=
  let passes := fun residue register share : Nat => 281474976710656 ≤ register + (residue + share) / q
  passes acc.residue.imp (acc.bandImp.get b) shares.imp
    ∨ passes acc.residue.exp (acc.bandExp.get b) shares.exp
    ∨ ∃ x, passes (acc.grossResidue.get x).imp (acc.gross.get x).imp (gross.get x).imp
      ∨ passes (acc.grossResidue.get x).exp (acc.gross.get x).exp (gross.get x).exp

/-- The state `t` is `s` after the stages 1 to 7 and 9 of the close of the window `w`, opened as `o` (R67): the summary and the
engine's own counts, the bank's chains, the marked credit, the report and the next, empty window; everything else that is no
flag is as it was. Stage 8, the installs, is `InstalledAtClose`. -/
structure State.Closed (s t : State) (w : Window) (o : Opening) (cause : CloseCause) : Prop where
  sequence : t.engine.sequence = (s.engine.sequence + 1) % 4294967296 ∧ t.engine.summary.sequence = t.engine.sequence
  named : t.engine.summary.cause = some cause ∧ t.engine.summary.intervalEnd = decide (cause = .interval)
  window : t.engine.summary.band = w.band ∧ t.engine.summary.count = w.count ∧ t.engine.summary.sums = w.sums
    ∧ t.engine.summary.day = o.day ∧ t.engine.summary.minute = o.minute ∧ t.engine.summary.q = o.meter.q
  mode : t.engine.summary.mode = netModeOf o.meter.netMode
  directions : ∀ x,
    let e := (w.sums.get x).energy
    let last := s.engine.lastDirection.get x
    let judged := (t.engine.summary.direction.get x, t.engine.lastDirection.get x, t.engine.summary.reversal.get x)
    ((e.natAbs < o.meter.creep * w.count ∨ e = 0) → judged = (.idle, last, false))
      ∧ (o.meter.creep * w.count ≤ e.natAbs → 0 < e → judged = (.imports, some .imports, decide (last = some .exports)))
      ∧ (o.meter.creep * w.count ≤ e.natAbs → e < 0 → judged = (.exports, some .exports, decide (last = some .imports)))
  reversals : ∀ x, t.engine.reversals.get x =
    if t.engine.summary.reversal.get x then min (s.engine.reversals.get x + 1) 4294967295 else s.engine.reversals.get x
  low : ∀ x,
    let p := w.sums.get x
    t.engine.summary.low.get x =
        (if o.meter.lanes.testBit (phaseNumber x) = false then .notEnabled
          else if p.sets = 0 ∨ p.squares < (o.meter.lowv * o.meter.lowv * p.sets : Nat) then .low else .notLow)
      ∧ t.engine.lowVoltage.get x = decide (t.engine.summary.low.get x = .low)
      ∧ t.monitor.conditions.getLsbD (8 * phaseNumber x + 7) = t.engine.lowVoltage.get x
  exportCheck :
    let r := t.engine.summary
    let anyLow := r.low.a = .low ∨ r.low.b = .low ∨ r.low.c = .low
    let was := s.engine.exportState
    let count := min (s.engine.consecutive + 1) o.meter.tripCount
    let after := (r.check, r.exportState, r.consecutive)
    (o.meter.expTrip = 0 → after = (.disabled, .normal, 0))
      ∧ (o.meter.expTrip ≠ 0 → anyLow → after = (.skipped, was, s.engine.consecutive))
      ∧ (o.meter.expTrip ≠ 0 → ¬ anyLow → o.meter.expTrip * w.count < r.aExp →
          after = (.made, if count = o.meter.tripCount ∨ was = .trip then .trip else .warn, count))
      ∧ (o.meter.expTrip ≠ 0 → ¬ anyLow → r.aExp ≤ o.meter.expTrip * w.count → o.meter.expWarn * w.count < r.aExp →
          after = (.made, if was = .trip then .trip else .warn, 0))
      ∧ (o.meter.expTrip ≠ 0 → ¬ anyLow → r.aExp ≤ o.meter.expTrip * w.count → r.aExp ≤ o.meter.expWarn * w.count →
          after = (.made, .normal, 0))
  exportFlags : t.engine.exportState = t.engine.summary.exportState ∧ t.engine.consecutive = t.engine.summary.consecutive
    ∧ t.monitor.conditions.getLsbD 26 = decide (t.engine.exportState ≠ .normal)
    ∧ t.monitor.conditions.getLsbD 27 = decide (t.engine.exportState = .trip)
  shares : (⟨t.engine.summary.aImp, t.engine.summary.aExp, t.engine.summary.discard⟩ : Netted)
    = net (netModeOf o.meter.netMode) (o.meter.creep * w.count) w.sums
  credited : t.engine.lastCreditedBand = some w.band
  next : t.engine.window = some { count := 0, band := s.calendar.band, opening := none, sums := .all sumsZero }
  engine : t.engine.state = s.engine.state ∧ t.engine.unmeteredCount = s.engine.unmeteredCount
    ∧ t.engine.unmetered = s.engine.unmetered
  importChain : ChainTakes o.meter.q s.bank.accounts.residue.imp (s.bank.accounts.bandImp.get w.band)
    t.engine.summary.aImp t.bank.accounts.residue.imp (t.bank.accounts.bandImp.get w.band)
  exportChain : ChainTakes o.meter.q s.bank.accounts.residue.exp (s.bank.accounts.bandExp.get w.band)
    t.engine.summary.aExp t.bank.accounts.residue.exp (t.bank.accounts.bandExp.get w.band)
  grossChains : ∀ x,
    ChainTakes o.meter.q (s.bank.accounts.grossResidue.get x).imp (s.bank.accounts.gross.get x).imp
        (w.sums.get x).grossImp (t.bank.accounts.grossResidue.get x).imp (t.bank.accounts.gross.get x).imp
      ∧ ChainTakes o.meter.q (s.bank.accounts.grossResidue.get x).exp (s.bank.accounts.gross.get x).exp
          (w.sums.get x).grossExp (t.bank.accounts.grossResidue.get x).exp (t.bank.accounts.gross.get x).exp
  otherBands : ∀ b, b ≠ w.band → t.bank.accounts.bandImp.get b = s.bank.accounts.bandImp.get b
    ∧ t.bank.accounts.bandExp.get b = s.bank.accounts.bandExp.get b
  bank : t.bank.accounts.updateCount = (s.bank.accounts.updateCount + 1) % 4294967296 ∧ t.bank.snapshot = s.bank.snapshot
  rollover : t.monitor.latched.getLsbD 30 = true ↔ s.monitor.latched.getLsbD 30 = true
    ∨ s.bank.accounts.Wraps o.meter.q w.band ⟨t.engine.summary.aImp, t.engine.summary.aExp⟩
        (w.sums.map (fun p => ⟨p.grossImp, p.grossExp⟩))
  credit : t.credits = s.credits ++
    [{ quanta := ⟨(s.bank.accounts.residue.imp + t.engine.summary.aImp) / o.meter.q,
                  (s.bank.accounts.residue.exp + t.engine.summary.aExp) / o.meter.q⟩
       band := w.band, intervalEnd := decide (cause = .interval) }]
  marks : t.aligner =
    { s.aligner with
      windowClosed := true
      directionReversed := s.aligner.directionReversed || t.engine.summary.reversal.a || t.engine.summary.reversal.b
        || t.engine.summary.reversal.c }
  report : t.link.reports =
    if o.meter.reports = 1 then (if s.link.reports.length < 8 then s.link.reports else s.link.reports.drop 1)
      ++ [t.engine.summary] else s.link.reports
  dropped : t.monitor.latched.getLsbD 36 = true ↔ s.monitor.latched.getLsbD 36 = true
    ∨ (o.meter.reports = 1 ∧ 8 ≤ s.link.reports.length)
  frame : (t.lanes, t.released, t.history, t.completed, t.requests, t.calendar, t.demand)
      = (s.lanes, s.released, s.history, s.completed, s.requests, s.calendar, s.demand)
    ∧ (t.timeNotices, t.tables, t.capture, t.checkers, t.freeChoices, t.pending)
      = (s.timeNotices, s.tables, s.capture, s.checkers, s.freeChoices, s.pending)
    ∧ { t.link with reports := s.link.reports, urgent := s.link.urgent } = s.link
    ∧ (t.resetApplied, t.monitor.mask) = (s.resetApplied, s.monitor.mask)
    ∧ (t.monitor.watchdogRunning, t.monitor.watchdogCount, t.monitor.expired)
      = (s.monitor.watchdogRunning, s.monitor.watchdogCount, s.monitor.expired)

/-- The state `t` is `s` after the install of the pending METER copy at the lane receivers, at the aligner's cycle memories and
at the lane test checkers (R20, R36, R182). -/
def State.MeterInstalledAtLanes (s t : State) : Prop :=
  ∀ x,
    let new := s.tables.meterPending.clamped
    let was := s.enabled x
    let now := new.lanes.testBit (phaseNumber x)
    let l := s.lanes.get x
    let l' := t.lanes.get x
    (was = false → now = true → l.state = .off →
        l'.state = .seek ∧ l'.queue = l.queue ∧ (l'.presentRun, l'.absentRun, l'.sequenceRun) = (0, 0, 0)
          ∧ (l'.periodPosition, l'.periodErrors) = (0, 0) ∧ l'.down = l.down)
      ∧ (was = true → now = false → l'.state = .off ∧ l'.queue = []
          ∧ (l'.presentRun, l'.absentRun, l'.sequenceRun) = (0, 0, 0) ∧ (l'.periodPosition, l'.periodErrors) = (0, 0)
          ∧ l'.voltage = detectorAtPowerOn ∧ l'.current = detectorAtPowerOn
          ∧ (l.state ≠ .test → l'.down = l.down)
          ∧ (∀ n, l.state = .test → s.aligner.latest = some n →
              l'.down = l.down ++ [{ kind := .testExit, lane := x, index := n, data := 0 }]))
      ∧ ((was = now ∨ (was = false ∧ l.state ≠ .off)) → l'.state = l.state ∧ l'.queue = l.queue
          ∧ (l'.presentRun, l'.absentRun, l'.sequenceRun) = (l.presentRun, l.absentRun, l.sequenceRun)
          ∧ (l'.periodPosition, l'.periodErrors) = (l.periodPosition, l.periodErrors) ∧ l'.down = l.down)
      ∧ (l'.lastPeriodErrors = l.lastPeriodErrors ∧ l'.counters = l.counters)
      ∧ ((∃ m, s.tables.meterActive = some m ∧ m.stuckLimit = new.stuckLimit) → ¬ (was = true ∧ now = false) →
          l'.voltage = l.voltage ∧ l'.current = l.current)
      ∧ ((∀ m, s.tables.meterActive = some m → m.stuckLimit ≠ new.stuckLimit) →
          l'.voltage = detectorAtPowerOn ∧ l'.current = detectorAtPowerOn)
      ∧ (t.aligner.cycles.get x).estimated = (s.aligner.cycles.get x).estimated
      ∧ ((∀ m, s.tables.meterActive = some m → m.cycleLen ≠ new.cycleLen) →
          (t.aligner.cycles.get x).codes = [] ∧ (t.aligner.cycles.get x).runCount = 0)
      ∧ ((∃ m, s.tables.meterActive = some m ∧ m.cycleLen = new.cycleLen) →
          ¬ (was = true ∧ now = false ∧ (l.state = .up ∨ l.state = .suspect)) →
          t.aligner.cycles.get x = s.aligner.cycles.get x)
      ∧ (was = true → now = false → (l.state = .up ∨ l.state = .suspect) →
          (t.aligner.cycles.get x).codes = [] ∧ (t.aligner.cycles.get x).runCount = 0)
      ∧ t.checkers.get x = (if was = true ∧ now = false ∧ l.state = .test then { s.checkers.get x with state := .idle }
          else s.checkers.get x)

/-- The accounts `acc'` are `acc` after the normalisation of the eight residues by the quantum `q`, with the band quanta
credited to band `b` (R88). -/
def Accounts.Normalised (acc acc' : Accounts) (q : Nat) (b : Band) : Prop :=
  ChainTakes q acc.residue.imp (acc.bandImp.get b) 0 acc'.residue.imp (acc'.bandImp.get b)
    ∧ ChainTakes q acc.residue.exp (acc.bandExp.get b) 0 acc'.residue.exp (acc'.bandExp.get b)
    ∧ (∀ x, ChainTakes q (acc.grossResidue.get x).imp (acc.gross.get x).imp 0 (acc'.grossResidue.get x).imp
          (acc'.gross.get x).imp
        ∧ ChainTakes q (acc.grossResidue.get x).exp (acc.gross.get x).exp 0 (acc'.grossResidue.get x).exp
          (acc'.gross.get x).exp)
    ∧ (∀ c, c ≠ b → acc'.bandImp.get c = acc.bandImp.get c ∧ acc'.bandExp.get c = acc.bandExp.get c)
    ∧ acc'.updateCount = (acc.updateCount + 1) % 4294967296

/-- The state `t` is `s` after the stages 8 and 9 of a close in METERING of a window of band `b`, where an apply request is
outstanding (R67, R137): the active copies change together, each block reacts, and the next window has the band in force after
the installs. How many waiting credits the demand unit takes before its own install is free (R123, log 15). That an install of
DEMAND_MODE OFF leaves the demand unit in IDLE with the partial mark clear and the base, the current count and the stamp at 0
(log 17), and what becomes of an expiry that is due at an install of WATCHDOG (log 34), are the model's choices. -/
structure State.InstalledAtClose (s t : State) (b : Band) : Prop where
  tables : t.tables =
    { s.tables with
      calActive := if s.tables.calRequest then some s.tables.calPending else s.tables.calActive
      meterActive := if s.tables.meterRequest then some s.tables.meterPending.clamped else s.tables.meterActive
      calendarActive := if s.tables.calendarRequest then some s.tables.calendarPending else s.tables.calendarActive
      calRequest := false, meterRequest := false, calendarRequest := false }
  announced : t.monitor.latched.getLsbD 31 = true
  history : t.history = if s.tables.calRequest then .all none else s.history
  band : if s.tables.meterRequest || s.tables.calendarRequest then (t.calendar.band, t.calendar.source) = t.bandNow
    else (t.calendar.band, t.calendar.source) = (s.calendar.band, s.calendar.source)
  clock : { t.calendar with band := s.calendar.band, source := s.calendar.source } = s.calendar
  marks : { t.aligner with cycles := s.aligner.cycles } =
    { s.aligner with bandChanged := s.aligner.bandChanged || decide (t.calendar.band ≠ s.calendar.band) }
  requests : t.requests = if t.calendar.band = s.calendar.band then s.requests else s.requests ++ [.switch]
  engine : t.engine =
    { s.engine with window := some { count := 0, band := t.calendar.band, opening := none, sums := .all sumsZero } }
  withoutMeter : s.tables.meterRequest = false →
    (t.lanes, t.aligner.cycles, t.bank, t.demand, t.credits, t.checkers, t.freeChoices)
        = (s.lanes, s.aligner.cycles, s.bank, s.demand, s.credits, s.checkers, s.freeChoices)
      ∧ (t.monitor.watchdogRunning, t.monitor.watchdogCount, t.monitor.expired)
        = (s.monitor.watchdogRunning, s.monitor.watchdogCount, s.monitor.expired)
  lanes : s.tables.meterRequest = true → s.MeterInstalledAtLanes t
  sameQuantum : s.tables.meterRequest = true → (∀ m, s.tables.meterActive = some m → m.q = s.tables.meterPending.clamped.q) →
    t.bank = s.bank ∧ ∃ taken, s.credits = taken ++ t.credits
  newQuantum : ∀ m, s.tables.meterRequest = true → s.tables.meterActive = some m → m.q ≠ s.tables.meterPending.clamped.q →
    s.bank.accounts.Normalised t.bank.accounts s.tables.meterPending.clamped.q b ∧ t.bank.snapshot = s.bank.snapshot
      ∧ ∃ taken, s.credits ++
          [{ quanta := ⟨s.bank.accounts.residue.imp / s.tables.meterPending.clamped.q,
                        s.bank.accounts.residue.exp / s.tables.meterPending.clamped.q⟩
             band := b, intervalEnd := false }] = taken ++ t.credits
  rollover : t.monitor.latched.getLsbD 30 = true ↔ s.monitor.latched.getLsbD 30 = true
    ∨ ∃ m, s.tables.meterRequest = true ∧ s.tables.meterActive = some m ∧ m.q ≠ s.tables.meterPending.clamped.q
      ∧ s.bank.accounts.Wraps s.tables.meterPending.clamped.q b ⟨0, 0⟩ (.all ⟨0, 0⟩)
  sameInterval : ∀ m, s.tables.meterRequest = true → s.tables.meterActive = some m →
    m.demandMode = s.tables.meterPending.clamped.demandMode → m.di = s.tables.meterPending.clamped.di →
    t.demand = s.demand ∧ s.credits.length ≤ t.credits.length ∧ t.freeChoices = s.freeChoices
  newInterval : s.tables.meterRequest = true →
    (∀ m, s.tables.meterActive = some m → m.demandMode ≠ s.tables.meterPending.clamped.demandMode
      ∨ m.di ≠ s.tables.meterPending.clamped.di) →
    let new := s.tables.meterPending.clamped
    let base := if new.demandMode = 1 ∨ new.demandMode = 2 ∨ (new.demandMode = 0 ∧ s.calendar.clockSet = false)
      then new.di * 240000 else 0
    (t.demand.sums = ⟨0, 0⟩ ∧ t.demand.restartPending = false ∧ t.demand.terminal = false
        ∧ (t.demand.stampDay, t.demand.stampMinute) = (0, 0) ∧ t.demand.previous = s.demand.previous
        ∧ t.demand.resetCount = s.demand.resetCount ∧ t.freeChoices = s.freeChoices + 1)
      ∧ (new.demandMode ≤ 2 →
          t.demand.state = .running ∧ t.demand.partialMark = true ∧ t.demand.base = base ∧ t.demand.current = base)
      ∧ (new.demandMode = 3 →
          t.demand.state = .idle ∧ t.demand.partialMark = false ∧ t.demand.base = 0 ∧ t.demand.current = 0)
  watchdog : ∀ m, s.tables.meterRequest = true → s.tables.meterActive = some m →
    (t.monitor.watchdogRunning, t.monitor.watchdogCount, t.monitor.expired) =
      if s.tables.meterPending.clamped.watchdog = 0 then (false, 0, false)
      else if m.watchdog = 0 then (true, 0, false)
      else (s.monitor.watchdogRunning, s.monitor.watchdogCount, s.monitor.expired)
  frame : (t.resetApplied, t.released, t.completed, t.timeNotices, t.capture, t.pending)
      = (s.resetApplied, s.released, s.completed, s.timeNotices, s.capture, s.pending)
    ∧ { t.link with urgent := s.link.urgent } = s.link ∧ t.monitor.mask = s.monitor.mask

/-! ### The lane test checker's pattern and steps -/

/-- The next 48 expected bits of a checker, the first one in bit 47, and its generator after them (R178): under PRBS15 `bit k` is
the pattern from the oldest of the generator's 15 bits on. -/
def Checker.Expects (c : Checker) (word : BitVec 48) (generator : BitVec 15) : Prop :=
  (c.pattern = .fixed → generator = c.generator ∧ word = if c.invert then ~~~c.fixedWord else c.fixedWord)
    ∧ (c.pattern = .prbs15 → ∃ bit : Nat → Bool,
        (∀ k < 15, bit k = c.generator.getLsbD (14 - k))
          ∧ (∀ k, bit (k + 15) = (bit (k + 1) ^^ bit k))
          ∧ (∀ j < 48, word.getLsbD (47 - j) = (bit (15 + j) ^^ c.invert))
          ∧ ∀ k < 15, generator.getLsbD k = bit (62 - k))

/-- The context `c'` is `c`, in SYNCED, after its expected index: the generator and the index advanced, `wrong` bits counted,
and the frame judged, with the sync loss that a bad one can bring (R179, R180). -/
def Checker.Judged (c c' : Checker) (generator : BitVec 15) (wrong : Nat) (bad : Bool) : Prop :=
  let counted : Checker := { c with
    generator := generator, expected := c.expected.map (· + 1), running := min (c.running + wrong) 1099511627775
    badRun := if bad then min (c.badRun + 1) 4 else 0 }
  ((bad = false ∨ c.badRun < 3 ∨ c.syncMask = true) → c' = counted)
    ∧ (bad = true → 3 ≤ c.badRun → c.syncMask = false →
        c' = { counted with state := .seeding, expected := none, syncLosses := min (c.syncLosses + 1) 65535 })

/-- The context `c'` is `c`, in HUNTING or SYNCED, after its expected index has been taken as missing (R179). -/
def Checker.Missed (c c' : Checker) : Prop :=
  ∃ word generator, c.Expects word generator
    ∧ (c.state = .hunting →
        c' = { c with generator := generator, expected := c.expected.map (· + 1), goodRun := 0 })
    ∧ (c.state = .synced → c.Judged c' generator 48 true)

/-- The generator that a frame's 48 bits seed (R178). -/
def Checker.seededGenerator (c : Checker) (data : BitVec 48) : BitVec 15 :=
  if c.pattern = .fixed then c.generator else (if c.invert then ~~~data else data).extractLsb' 0 15

/-- The context `c'` is `c`, in HUNTING or SYNCED, after a frame with its expected index has been checked (R179, R180). -/
def Checker.Checked (c : Checker) (index : StrobeIndex) (data : BitVec 48) (c' : Checker) : Prop :=
  ∃ word generator, c.Expects word generator
    ∧ let wrong := ((List.range 48).filter (fun k => data.getLsbD k != word.getLsbD k)).length
      (c.state = .hunting → wrong = 0 → c.goodRun < 3 →
          c' = { c with generator := generator, expected := c.expected.map (· + 1), goodRun := c.goodRun + 1 })
        ∧ (c.state = .hunting → wrong = 0 → c.goodRun = 3 →
          c' = { c with
            state := .synced, generator := generator, expected := c.expected.map (· + 1), goodRun := 0, badRun := 0 })
        ∧ (c.state = .hunting → wrong ≠ 0 →
          c' = { c with generator := c.seededGenerator data, expected := some (index + 1), goodRun := 0 })
        ∧ (c.state = .synced → c.Judged c' generator wrong (decide (12 ≤ wrong)))

/-- The context `c'` is `c`, in SEEDING, after its seed frame, where `latest` is the latest issued strobe (R179): HUNTING from the
frame's own index on. Where that index is three or more strobes behind, in the circle of indices, and not that of the next strobe,
the deadlines that have passed are taken as missing (log 30). -/
def Checker.Seeded (c : Checker) (latest : Option StrobeIndex) (index : StrobeIndex) (data : BitVec 48) (c' : Checker) : Prop :=
  let seeded : Checker := { c with
    state := .hunting, generator := c.seededGenerator data, expected := some (index + 1), goodRun := 0, badRun := 0
    timebaseBegun := true }
  ((latest = none ∨ ∃ n, latest = some n ∧ ((n - index).toNat ≤ 2 ∨ index = n + 1)) → c' = seeded)
    ∧ (∀ n, latest = some n → 3 ≤ (n - index).toNat → index ≠ n + 1 →
        ∃ generator, c' = { seeded with generator := generator, expected := some (n - 1) })

/-- The context `c'` is `c` after a frame whose earlier indices have been accounted for: checked, or the seed frame where they
have lost sync (R180, log 24). -/
def Checker.CheckedOrSeeded (c : Checker) (latest : Option StrobeIndex) (index : StrobeIndex) (data : BitVec 48)
    (c' : Checker) : Prop :=
  ((c.state = .hunting ∨ c.state = .synced) → c.Checked index data c')
    ∧ (c.state = .seeding → c.Seeded latest index data c')

/-- The context `c'` is `c` after a TEST frame (R179). -/
def Checker.Takes (c : Checker) (latest : Option StrobeIndex) (index : StrobeIndex) (data : BitVec 48) (c' : Checker) : Prop :=
  (c.state = .idle → c' = c)
    ∧ (c.state = .seeding → c.Seeded latest index data c')
    ∧ ∀ e, (c.state = .hunting ∨ c.state = .synced) → c.expected = some e →
        (index = e → c.Checked index data c')
          ∧ (index = e + 1 → ∃ d, c.Missed d ∧ d.CheckedOrSeeded latest index data c')
          ∧ (index = e + 2 → ∃ d d', c.Missed d ∧ ((d.state = .hunting ∨ d.state = .synced) → d.Missed d')
              ∧ (d.state = .seeding → d' = d) ∧ d'.CheckedOrSeeded latest index data c')
          ∧ (index ≠ e → index ≠ e + 1 → index ≠ e + 2 → c' = c)

/-- The number of a table in a command (R169). -/
def TableName.number : TableName → Byte
  | .cal => 0
  | .meter => 1
  | .calendar => 2
  | .trigger => 3

/-- The bytes of a table's canonical image that stand before entry `i` (R130). -/
def TableName.offset : TableName → Nat → Nat
  | .cal, i => 10 * i
  | .meter, i => 8 * i
  | .calendar, i => if i ≤ 96 then 3 * i else 288 + (i - 96)
  | .trigger, i => 5 * i

/-! ### Structural faults -/

/-- Field `i` of a METER copy lies outside its enumeration (R134). -/
def Meter.BadField (m : Meter) (i : Nat) : Prop :=
  (i = 0 ∧ (m.lanes = 0 ∨ 7 < m.lanes)) ∨ (i = 1 ∧ 2 < m.netMode) ∨ (i = 8 ∧ 2 < m.subst)
    ∨ (i = 16 ∧ 8 < m.failsafeBand) ∨ (i = 17 ∧ 7 < m.unsetBand) ∨ (i = 18 ∧ 3 < m.demandMode) ∨ (i = 20 ∧ 1 < m.reports)

/-- Entry `i` of a CALENDAR copy has a structural fault of the kind `k` (R134); where a switch point has several, bad value comes
before out of order and out of order before empty not trailing (log 23). -/
def CalendarTable.FaultAt (t : CalendarTable) (i : Nat) (k : FaultKind) : Prop :=
  (96 ≤ i ∧ k = .badValue ∧ ((∃ d, t.week[i - 96]? = some d ∧ 7 < d) ∨ (i = 103 ∧ 6 < t.offset)))
    ∨ ∃ p, t.points[i]? = some p ∧ p.minute ≠ 65535
      ∧ let bad := 1440 ≤ p.minute ∨ 7 < p.band
        let late := ∃ j q, j < i ∧ j / 12 = i / 12 ∧ t.points[j]? = some q ∧ q.minute ≠ 65535 ∧ p.minute ≤ q.minute
          ∧ ∀ n r, j < n → n < i → t.points[n]? = some r → r.minute = 65535
        let gap := ∃ j q, j < i ∧ j / 12 = i / 12 ∧ t.points[j]? = some q ∧ q.minute = 65535
        (k = .badValue ∧ bad) ∨ (k = .outOfOrder ∧ ¬ bad ∧ late) ∨ (k = .emptyNotTrailing ∧ ¬ bad ∧ ¬ late ∧ gap)

/-! ### Laws of the state -/

/-- The fault monitor agrees with the owners: its conditions are theirs, a true condition is latched (R141), and the alert
summary is that of the latched and unmasked flags (R144). -/
def State.MonitorLaw (s : State) : Prop :=
  s.monitor.conditions = s.liveConditions
    ∧ s.monitor.conditions &&& ~~~s.monitor.latched = 0#48
    ∧ s.monitor.alert = decide (s.monitor.latched &&& ~~~s.monitor.mask ≠ 0#48)

/-- Every queue of the link port and the capture queue are within their bounds (sections 10.1, 11.1). -/
def State.QueueLaw (s : State) : Prop :=
  s.link.commands.length ≤ 4 ∧ s.link.responses.length ≤ 4 ∧ s.link.reports.length ≤ 8 ∧ s.capture.queue.length ≤ 32

/-- The law of the special-day list (R105). -/
def State.SpecialDayLaw (s : State) : Prop :=
  s.calendar.specialDays.length ≤ 16
    ∧ s.calendar.specialDays.Pairwise (fun d e => d.day < e.day)
    ∧ (s.calendar.clockSet = true → ∀ d ∈ s.calendar.specialDays, s.calendar.day ≤ d.day)

/-- The open range holds at most three indices, in issue order and without a gap, ending at the latest issued strobe
(R22, R23). -/
def Aligner.rangeLaw (al : Aligner) : Prop :=
  (match al.openRange with
    | [] => True
    | [m] => m + 1 = al.nextIndex
    | [m, n] => m + 1 = n ∧ n + 1 = al.nextIndex
    | [k, m, n] => k + 1 = m ∧ m + 1 = n ∧ n + 1 = al.nextIndex
    | _ => False)
    ∧ ∀ n, al.openRange.getLast? = some n → al.latest = some n

/-- The law of a lane queue (R5): distinct indices of the open range, in ascending order from the oldest open one; a lane in
OFF, LOST or TEST holds none. -/
def Lane.queueLaw (l : Lane) (al : Aligner) : Prop :=
  l.queue.Pairwise (fun f g => (f.index - al.oldest).toNat < (g.index - al.oldest).toNat)
    ∧ (∀ f ∈ l.queue, f.index ∈ al.openRange)
    ∧ (l.state.waited = false → l.queue = [])

/-- The laws of the open range and of the three lane queues (R5, R23). -/
def State.RangeLaw (s : State) : Prop := s.aligner.rangeLaw ∧ ∀ x, (s.lanes.get x).queueLaw s.aligner

/-- A METER table in the installed ranges of section 8.2 (R134, R135). -/
def Meter.Installed (m : Meter) : Prop :=
  (1 ≤ m.lanes ∧ m.lanes ≤ 7) ∧ m.netMode ≤ 2 ∧ (80 ≤ m.nw ∧ m.nw ≤ 3600000) ∧ (2 ^ 16 ≤ m.q ∧ m.q ≤ 2 ^ 48)
    ∧ m.creep ≤ 2 ^ 32 ∧ m.expTrip ≤ 2 ^ 40 ∧ m.expWarn ≤ m.expTrip ∧ (1 ≤ m.tripCount ∧ m.tripCount ≤ 16)
    ∧ m.subst ≤ 2 ∧ (64 ≤ m.cycleLen ∧ m.cycleLen ≤ 100) ∧ m.substMax ≤ 40000 ∧ (1 ≤ m.qAssert ∧ m.qAssert ≤ 255)
    ∧ m.qClear < m.qAssert ∧ (m.stuckLimit = 0 ∨ (16 ≤ m.stuckLimit ∧ m.stuckLimit ≤ 4000)) ∧ m.lowv ≤ 524287
    ∧ m.watchdog ≤ 255 ∧ m.failsafeBand ≤ 8 ∧ m.unsetBand ≤ 7 ∧ m.demandMode ≤ 3 ∧ (1 ≤ m.di ∧ m.di ≤ 60)
    ∧ (m.demandMode = 0 → 1440 % m.di = 0) ∧ m.reports ≤ 1

/-- A CAL entry in the ranges of its encoding (R130), with a legal POLARITY (R134). -/
def CalEntry.Installed (e : CalEntry) : Prop :=
  (-32768 ≤ e.vOfs ∧ e.vOfs ≤ 32767) ∧ e.vGain ≤ 65535 ∧ (-32768 ≤ e.iOfs ∧ e.iOfs ≤ 32767) ∧ e.iGain ≤ 65535
    ∧ e.delay ≤ 255 ∧ e.polarity ≤ 1

/-- A CALENDAR copy has its 104 entries, each within its encoding (R130, section 8.2). -/
def CalendarTable.Encodable (t : CalendarTable) : Prop :=
  t.points.length = 96 ∧ t.week.length = 7 ∧ (∀ p ∈ t.points, p.minute ≤ 65535 ∧ p.band ≤ 255)
    ∧ (∀ d ∈ t.week, d ≤ 255) ∧ t.offset ≤ 255

/-- Every copy has its entries within their encoding (R130), every active copy is well formed and within its ranges, and the
pending copy behind an outstanding request has passed the checks (R134 to R136). -/
def State.TableLaw (s : State) : Prop :=
  (∀ t, s.tables.calActive = some t → ∀ x, (t.get x).Installed)
    ∧ (∀ m, s.tables.meterActive = some m → m.Installed)
    ∧ (∀ t, s.tables.calendarActive = some t → t.fault = none)
    ∧ (∀ name, s.tables.request name = true → s.tables.pendingFault name = none)
    ∧ (∀ x, (-32768 ≤ (s.tables.calPending.get x).vOfs ∧ (s.tables.calPending.get x).vOfs ≤ 32767)
        ∧ (s.tables.calPending.get x).vGain ≤ 65535
        ∧ (-32768 ≤ (s.tables.calPending.get x).iOfs ∧ (s.tables.calPending.get x).iOfs ≤ 32767)
        ∧ (s.tables.calPending.get x).iGain ≤ 65535 ∧ (s.tables.calPending.get x).delay ≤ 255
        ∧ (s.tables.calPending.get x).polarity ≤ 255)
    ∧ (∀ v ∈ s.tables.meterPending.fields, v < 2 ^ 64) ∧ s.tables.trigger.length = 4
    ∧ s.tables.calendarPending.Encodable ∧ ∀ t, s.tables.calendarActive = some t → t.Encodable

/-- The law of windows (R54, R60, R61, R63, R69, R86): a window is open exactly while windows run, under active CAL and METER
tables; one that holds sets was opened under the METER table that is active, holds fewer than NW, and has zero sums for a phase
of a lane disabled in its LANES mask; and one that holds none has zero sums. -/
def State.WindowLaw (s : State) : Prop :=
  (s.engine.window.isSome = s.windowsRun)
    ∧ (s.windowsRun = true → s.tables.calActive.isSome = true ∧ s.tables.meterActive.isSome = true)
    ∧ ∀ w, s.engine.window = some w →
        (w.opening = none → w.count = 0 ∧ w.sums = .all sumsZero)
          ∧ ∀ o, w.opening = some o → s.tables.meterActive = some o.meter ∧ 1 ≤ w.count ∧ w.count < o.meter.nw
            ∧ ∀ x, o.meter.lanes.testBit (phaseNumber x) = false → w.sums.get x = sumsZero

/-- The eight residues. -/
def Accounts.residues (acc : Accounts) : List Nat :=
  [acc.residue.imp, acc.residue.exp, acc.grossResidue.a.imp, acc.grossResidue.a.exp, acc.grossResidue.b.imp,
   acc.grossResidue.b.exp, acc.grossResidue.c.imp, acc.grossResidue.c.exp]

/-- The registers of the bank. -/
def Accounts.registers (acc : Accounts) : List Nat :=
  acc.bandImp.toList ++ acc.bandExp.toList
    ++ [acc.gross.a.imp, acc.gross.a.exp, acc.gross.b.imp, acc.gross.b.exp, acc.gross.c.imp, acc.gross.c.exp]

/-- The law of residues (R83) and the range of the registers (R84). -/
def State.BankLaw (s : State) : Prop :=
  (∀ r ∈ s.bank.accounts.registers, r < 2 ^ 48)
    ∧ (s.tables.meterActive = none → ∀ r ∈ s.bank.accounts.residues, r = 0)
    ∧ ∀ m, s.tables.meterActive = some m → ∀ r ∈ s.bank.accounts.residues, r < m.q

/-- The tables, the window and the bank together. -/
def State.BillingLaw (s : State) : Prop := s.TableLaw ∧ s.WindowLaw ∧ s.BankLaw

end Sys2Proof.Machine
end

