-- ==== Sys2Proof/Certificates/Slice0/Obligations.lean ====
section
/-!
DEFINITION. The statements for the provers. A statement about an executed command has `Executes` as its hypothesis: the
command waits at the head, a response slot is free, and the device is ready (the power-on reset is not applied and nothing is
due at once). `MonitorLaw` rules out states in which the fault monitor disagrees with the owners of the conditions; that it
holds at State.reset and is kept by every step is stated in this file.
-/

open Sys2Proof Sys2Proof.Machine

/-! ### The device -/

/-- The step at the front of the queue acts on the rest; an empty queue idles (log 1, the model's choice). -/
def Obligations.StepTakesTheFrontCommand : Prop :=
  (∀ (c : Instr) (rest : List Instr) (s : State),
      s.pending = c :: rest → step s = exec c { s with pending := rest })
    ∧ ∀ s : State, s.pending = [] → step s = .next s

/-- R1: while the power-on reset is applied every block holds its power-on value, no strobe is issued, no frame is heard, and
nothing else happens; the reset then ends. The queue of steps and the count of free choices are the model's own. -/
def Obligations.PowerOnResetAppliesAndEnds : Prop :=
  (∀ s : State,
    exec .powerOnReset s =
        .next { State.reset with resetApplied := true, freeChoices := s.freeChoices, pending := s.pending }
      ∧ exec .powerOnResetEnds s = .next { s with resetApplied := false })
    ∧ ∀ (c : Instr) (s : State),
        s.resetApplied = true → c ≠ .powerOnReset → c ≠ .powerOnResetEnds → exec c s = .next s

/-- What the manual gives after power-on (R21, R37, R46, R59, R97, R114, R124, R128, R153, R164, R176, R182). -/
def Obligations.PowerOnValuesOfTheManual : Prop :=
  (∀ x : Phase,
      let l := State.reset.lanes.get x
      l.state = .off ∧ l.queue = [] ∧ l.down = [] ∧ (l.presentRun, l.absentRun, l.sequenceRun) = (0, 0, 0)
        ∧ (l.periodPosition, l.periodErrors, l.lastPeriodErrors) = (0, 0, 0)
        ∧ l.voltage.previous = none ∧ l.voltage.stuck = false ∧ l.current.previous = none ∧ l.current.stuck = false
        ∧ l.voltage.equalRun = 0 ∧ l.current.equalRun = 0
        ∧ (l.voltage.blockPosition, l.voltage.changeSeen, l.voltage.goodBlocks) = (0, false, 0)
        ∧ (l.current.blockPosition, l.current.changeSeen, l.current.goodBlocks) = (0, false, 0)
        ∧ (l.counters.accepted, l.counters.crcErrors, l.counters.sequenceErrors, l.counters.late, l.counters.resyncs,
            l.counters.restarts, l.counters.lost, l.counters.overrange) = (0, 0, 0, 0, 0, 0, 0, 0)
        ∧ (let c := State.reset.checkers.get x
          (c.state, c.pattern, c.invert, c.syncMask, c.timebase) = (.idle, .prbs15, false, false, .continuous)
            ∧ c.limitCode = 0#8 ∧ c.fixedWord = 0#48 ∧ c.expected = none ∧ (c.goodRun, c.badRun) = (0, 0)
            ∧ (c.running, c.lastResult, c.timebaseCount, c.syncLosses) = (0, 0, 0, 0)
            ∧ (c.resultValid, c.failMark) = (false, false))
        ∧ (State.reset.aligner.cycles.get x).runCount = 0 ∧ (State.reset.aligner.cycles.get x).estimated = 0
        ∧ State.reset.engine.lastDirection.get x = none ∧ State.reset.engine.reversals.get x = 0
        ∧ State.reset.engine.lowVoltage.get x = false
        ∧ State.reset.tables.calPending.get x =
            { vOfs := 0, vGain := 32768, iOfs := 0, iGain := 32768, delay := 0, polarity := 0 }
        ∧ (State.reset.aligner.cycles.get x).codes = [] ∧ State.reset.history.get x = none)
    ∧ State.reset.aligner.nextIndex = 0#12 ∧ State.reset.aligner.openRange = []
    ∧ State.reset.aligner.restartPoint = none
    ∧ (State.reset.aligner.windowClosed, State.reset.aligner.bandChanged, State.reset.aligner.directionReversed,
        State.reset.aligner.estimating) = (false, false, false, false)
    ∧ State.reset.engine.state = .config ∧ State.reset.engine.window = none ∧ State.reset.engine.sequence = 0
    ∧ State.reset.engine.summary.cause = none ∧ State.reset.engine.summary.band = 0
    ∧ State.reset.engine.lastCreditedBand = none
    ∧ (let r := State.reset.engine.summary
      (r.sequence, r.day, r.minute, r.count, r.q, r.consecutive) = (0, 0, 0, 0, 0, 0)
        ∧ (r.aImp, r.aExp, r.discard) = (0, 0, 0)
        ∧ ∀ x, r.sums.get x = { energy := 0, grossImp := 0, grossExp := 0, squares := 0, sets := 0 })
    ∧ State.reset.engine.exportState = .normal ∧ State.reset.engine.consecutive = 0
    ∧ State.reset.engine.unmeteredCount = 0 ∧ State.reset.engine.unmetered = false
    ∧ (∀ r ∈ State.reset.bank.accounts.registers, r = 0) ∧ (∀ r ∈ State.reset.bank.accounts.residues, r = 0)
    ∧ State.reset.bank.accounts.updateCount = 0
    ∧ (let r := State.reset.bank.snapshot
      r.taken = false ∧ (∀ n ∈ r.accounts.registers, n = 0) ∧ (∀ n ∈ r.accounts.residues, n = 0)
        ∧ (r.accounts.updateCount, r.q, r.day, r.minute, r.sequence) = (0, 0, 0, 0, 0)
        ∧ (r.clockSet, r.band, r.engine) = (false, 0, .config))
    ∧ (State.reset.calendar.day, State.reset.calendar.minute, State.reset.calendar.strobeCount) = (0, 0, 0)
    ∧ State.reset.calendar.clockSet = false ∧ State.reset.calendar.specialDays = []
    ∧ State.reset.calendar.band = 0 ∧ State.reset.calendar.source = .unset
    ∧ (let d := State.reset.demand
      d.state = .idle ∧ d.resetCount = 0 ∧ d.partialMark = false ∧ d.restartPending = false ∧ d.sums = ⟨0, 0⟩
        ∧ (d.base, d.current, d.stampDay, d.stampMinute) = (0, 0, 0, 0)
        ∧ (d.records.imp.toList ++ d.records.exp.toList ++ d.previous.imp.toList ++ d.previous.exp.toList).map
            (fun r => (r.value, r.day, r.minute)) = List.replicate 32 (0, 0, 0))
    ∧ State.reset.tables.meterPending.fields =
        [7, 2, 4000, 1000000000000, 0, 0, 0, 1, 1, 80, 0, 16, 4, 0, 0, 0, 8, 0, 3, 15, 0]
    ∧ State.reset.tables.calendarPending =
        { points := List.replicate 96 { minute := 65535, band := 0 }, week := List.replicate 7 0, offset := 0 }
    ∧ State.reset.tables.trigger = List.replicate 4 { enabled := false, value := 0#16, mask := 0#16 }
    ∧ State.reset.tables.calActive = none ∧ State.reset.tables.meterActive = none
    ∧ State.reset.tables.calendarActive = none ∧ State.reset.tables.anyRequest = false
    ∧ State.reset.monitor.latched = Flag.clockNotSet.bit ∧ State.reset.monitor.conditions = Flag.clockNotSet.bit
    ∧ State.reset.monitor.mask = 0#48 ∧ State.reset.monitor.alert = true
    ∧ State.reset.monitor.watchdogRunning = false ∧ State.reset.monitor.watchdogCount = 0
    ∧ State.reset.link.downlink = .waitingForIdle ∧ State.reset.link.commands = [] ∧ State.reset.link.responses = []
    ∧ State.reset.link.reports = [] ∧ State.reset.link.urgent = none ∧ State.reset.link.paused = false
    ∧ State.reset.link.rotation = [.response, .report, .capture] ∧ State.reset.link.uplink = .idle
    ∧ (State.reset.link.responseInProgress, State.reset.link.reportInProgress) = (none, none)
    ∧ State.reset.capture.state = .idle ∧ State.reset.capture.queue = [] ∧ State.reset.capture.overrun = 0
    ∧ (State.reset.capture.mode, State.reset.capture.base, State.reset.capture.current, State.reset.capture.decimation,
        State.reset.capture.decimationCount) = (.once, 1, 0, 1, 0)
    ∧ (State.reset.capture.source, State.reset.capture.sourceIndex) = (.none, none)

/-- Every law that this file states as an invariant holds right after the power-on reset. -/
def Obligations.ResetStateMeetsEveryLaw : Prop :=
  State.reset.MonitorLaw ∧ State.reset.QueueLaw ∧ State.reset.SpecialDayLaw ∧ State.reset.RangeLaw
    ∧ State.reset.BillingLaw

/-- Log 3, the model's reading of the words "at once" (R13, R98, R119, R173, R181): a step that does not stand alone acts on
the state in which nothing that comes about at once is due any more. -/
def Obligations.WhatIsDueAtOnceComesFirst : Prop :=
  (∀ s : State, s.settle.quiet = true)
    ∧ ∀ (c : Instr) (s : State), s.resetApplied = false → c.standsAlone = false → exec c s = exec c s.settle

/-! ### Laws that every step keeps -/

/-- R141, R144: the conditions are the owners', a true condition is latched, and the summary is that of the latched and
unmasked flags, after every step. -/
def Obligations.EveryStepKeepsTheMonitorLaw : Prop :=
  ∀ s t : State, s.MonitorLaw → step s = .next t → t.MonitorLaw

/-- Sections 10.1 and 11.1: no queue ever grows past its bound. -/
def Obligations.EveryStepKeepsTheQueueBounds : Prop :=
  ∀ s t : State, s.QueueLaw → step s = .next t → t.QueueLaw

/-- R105: the special-day list stays in ascending order, within 16 entries, and with no past day while the clock is set. -/
def Obligations.EveryStepKeepsTheSpecialDayLaw : Prop :=
  ∀ s t : State, s.SpecialDayLaw → step s = .next t → t.SpecialDayLaw

/-- R5, R23: the open range and the lane queues. -/
def Obligations.EveryStepKeepsTheRangeLaw : Prop :=
  ∀ s t : State, s.RangeLaw → step s = .next t → t.RangeLaw

/-- R54, R60, R63, R69, R83, R84, R86, R134 to R136: the tables, the open window and the bank. That the squares and the set count
of a phase of a disabled lane stay at zero with its other sums is the model's reading (log 33). -/
def Obligations.EveryStepKeepsTheBillingLaw : Prop :=
  ∀ s t : State, s.BillingLaw → step s = .next t → t.BillingLaw

/-! ### The fault monitor -/

/-- R141, R144, R146, R147: what a raise does; and what the report of a condition does: a change from false to true is a raise,
a change from true to false leaves the latch, and no change leaves everything. -/
def Obligations.RaisesAndReportsLatchAndNotify : Prop :=
  ∀ (s : State) (f : Flag),
    (s.raise f).monitor =
        { s.monitor with
          latched := s.monitor.latched ||| f.bit
          alert := decide ((s.monitor.latched ||| f.bit) &&& ~~~s.monitor.mask ≠ 0#48) }
      ∧ { s.raise f with monitor := s.monitor, link := s.link } = s
      ∧ { (s.raise f).link with urgent := s.link.urgent } = s.link
      ∧ ((f.urgent = false ∨ s.monitor.mask.getLsbD f.index = true) → (s.raise f).link.urgent = s.link.urgent)
      ∧ (f.urgent = true → s.monitor.mask.getLsbD f.index = false →
          (s.link.urgent = none →
            (s.raise f).link.urgent =
              some { flags := f.bit, raiseCount := 1, engine := s.engine.state, day := s.calendar.day,
                     minute := s.calendar.minute, clockSet := s.calendar.clockSet })
          ∧ ∀ n, s.link.urgent = some n →
            (s.raise f).link.urgent =
              some { n with flags := n.flags ||| f.bit, engine := s.engine.state
                            raiseCount := if n.raiseCount < 255 then n.raiseCount + 1 else 255 })
      ∧ (s.monitor.conditions.getLsbD f.index = false →
        s.report f true = ({ s with monitor :=
          { s.monitor with conditions := s.monitor.conditions ||| f.bit } }).raise f
        ∧ s.report f false = s)
      ∧ (s.monitor.conditions.getLsbD f.index = true →
          s.report f true = s
          ∧ s.report f false =
              { s with monitor := { s.monitor with conditions := s.monitor.conditions &&& ~~~f.bit } })

/-! ### Lane receivers -/

/-- R3, step 1, and the lane in OFF: a frame that breaks the framing or the CRC is counted and nothing else; a lane in OFF hears
nothing. -/
def Obligations.UpFrameWithCrcErrorIsCounted : Prop :=
  ∀ (x : Phase) (f : LineFrame) (s : State), s.Ready → s.MonitorLaw →
    ((s.lanes.get x).state = .off → exec (.upDirectionFrame x f) s = .next s)
      ∧ ((s.lanes.get x).state ≠ .off →
          (f.stopBits = false ∨ f.chars.length ≠ 11
            ∨ crc16 (f.chars.take 9) ≠ BitVec.ofNat 16 (beNat (f.chars.drop 9))) →
          exec (.upDirectionFrame x f) s =
            .next (s.withLane x
              { s.lanes.get x with
                counters := { (s.lanes.get x).counters with
                  crcErrors := min ((s.lanes.get x).counters.crcErrors + 1) 4294967295 }
                periodErrors := if (s.lanes.get x).state.waited then min ((s.lanes.get x).periodErrors + 1) 65535
                  else (s.lanes.get x).periodErrors }))

/-- R3, step 2, R4 and R6: a frame of another lane or kind, a TEST frame outside TEST, and a SAMPLE frame whose index is queued
already or is neither in the open range nor up to eight strobes behind it, is a sequence error; the fourth in a row resyncs the
lane; in LOST only the counter moves. -/
def Obligations.UpFrameOfWrongIdentityIsASequenceError : Prop :=
  ∀ (x : Phase) (f : LineFrame) (s : State) (l counted : Lane) (index : StrobeIndex), s.Ready → s.MonitorLaw →
    l = s.lanes.get x → f.stopBits = true → f.chars.length = 11 →
    crc16 (f.chars.take 9) = BitVec.ofNat 16 (beNat (f.chars.drop 9)) →
    index = ((f.chars.getD 1 0).extractLsb' 0 4 ++ f.chars.getD 2 0) →
    let lane := (f.chars.getD 0 0).toNat / 8 % 4
    let kind := (f.chars.getD 0 0).toNat / 32
    (lane ≠ phaseNumber x + 1 ∨ (kind ≠ 4 ∧ kind ≠ 5) ∨ (kind = 5 ∧ l.state ≠ .test)
      ∨ (kind = 4 ∧ l.state ≠ .test ∧ s.RangeLaw
        ∧ ((∃ e ∈ l.queue, e.index = index)
          ∨ (index ∉ s.aligner.openRange ∧ (index - s.aligner.oldest).toNat < 4088)))) →
    counted = { l with counters :=
      { l.counters with sequenceErrors := min (l.counters.sequenceErrors + 1) 4294967295 } } →
    ((l.state = .lost ∨ l.state = .test) →
        exec (.upDirectionFrame x f) s = .next (s.withLane x counted))
      ∧ (l.state.waited = true → l.sequenceRun < 3 →
        exec (.upDirectionFrame x f) s =
          .next (s.withLane x
            { counted with periodErrors := min (l.periodErrors + 1) 65535, sequenceRun := l.sequenceRun + 1 }))
      ∧ (l.state.waited = true → l.sequenceRun = 3 →
        exec (.upDirectionFrame x f) s =
          .next (((if l.state = .seek then s else s.withEmptyMemory x).withLane x
            { counted with
              state := .seek, queue := [], presentRun := 0, sequenceRun := 0, periodPosition := 0, periodErrors := 0
              voltage := { l.voltage with previous := none, equalRun := 0 }
              current := { l.current with previous := none, equalRun := 0 }
              counters := { counted.counters with resyncs := min (l.counters.resyncs + 1) 4294967295 } }).report
                (.laneSuspect x) false |>.raise (.laneResync x)))

/-- The fields of a good SAMPLE frame on the line (R166), each tied to its bytes, with the clamp of R7: the entry that the lane
queue keeps (R5). -/
def Obligations.SampleEntryIsTheClampedFrame : Prop :=
  ∀ f : LineFrame, f.stopBits = true → f.chars.length = 11 →
    crc16 (f.chars.take 9) = BitVec.ofNat 16 (beNat (f.chars.drop 9)) →
    let c := fun k => f.chars.getD k 0
    ∃ g, parseLaneFrame f = some g
      ∧ g.kind = (c 0).toNat / 32 ∧ g.lane = (c 0).toNat / 8 % 4
      ∧ g.v = (c 3 ++ c 4 ++ c 5).toInt ∧ g.i = (c 6 ++ c 7 ++ c 8).toInt
      ∧ g.data = c 3 ++ c 4 ++ c 5 ++ c 6 ++ c 7 ++ c 8
      ∧ (clampFrame g).index = (c 1).extractLsb' 0 4 ++ c 2
      ∧ (clampFrame g).v = max (-524288) (min 524287 g.v)
      ∧ (clampFrame g).i = max (-524288) (min 524287 g.i)
      ∧ (clampFrame g).vOvr = ((c 0).getLsbD 2 || decide (g.v < -524288) || decide (524287 < g.v))
      ∧ (clampFrame g).iOvr = ((c 0).getLsbD 1 || decide (g.i < -524288) || decide (524287 < g.i))
      ∧ (clampFrame g).restart = (c 1).getLsbD 7
      ∧ (clampFrame g).vFault = (c 1).getLsbD 6 ∧ (clampFrame g).iFault = (c 1).getLsbD 5

/-- R4, R5, R7, R11, R14, R16: a frame whose index is in the open range and not yet queued joins the queue of a lane in SEEK, UP
or SUSPECT; a RESTART frame does so in SEEK alone, with the present run at 0 and both histories restarted. The detectors are fed
unless STUCK_LIMIT is 0, the channel is at fault or, for the current, the phase's LOW_VOLTAGE holds; a channel that becomes stuck
is reported, and the voltage's empties the cycle memory (R33). That a RESTART frame's own codes are fed after the histories have
restarted is the model's reading (log 13). -/
def Obligations.AcceptedSampleJoinsTheLaneQueue : Prop :=
  ∀ (x : Phase) (f : LineFrame) (g : UpLaneFrame) (s : State) (l : Lane) (e : SampleFrame)
    (voltage current fedVoltage fedCurrent : Detector), s.Ready → s.MonitorLaw → s.RangeLaw →
    l = s.lanes.get x → e = clampFrame g → l.state.waited = true → parseLaneFrame f = some g → g.kind = 4 →
    g.lane = phaseNumber x + 1 → (g.restart = true → l.state = .seek) → g.index ∈ s.aligner.openRange →
    (∀ d ∈ l.queue, d.index ≠ g.index) →
    voltage = (if g.restart then { l.voltage with previous := none, equalRun := 0 } else l.voltage) →
    current = (if g.restart then { l.current with previous := none, equalRun := 0 } else l.current) →
    fedVoltage = (if s.stuckLimit = 0 ∨ e.vFault = true then voltage else voltage.feed s.stuckLimit e.v) →
    fedCurrent = (if s.stuckLimit = 0 ∨ e.iFault = true ∨ s.engine.lowVoltage.get x = true then current
      else current.feed s.stuckLimit e.i) →
    let memory := if l.voltage.stuck = false ∧ fedVoltage.stuck = true then s.withEmptyMemory x else s
    ∃ q : List SampleFrame,
      (∀ d, d ∈ q ↔ d = e ∨ d ∈ l.queue)
        ∧ q.Pairwise (fun d e => (d.index - s.aligner.oldest).toNat < (e.index - s.aligner.oldest).toNat)
        ∧ exec (.upDirectionFrame x f) s =
            .next (((((memory.withLane x
              { l with
                queue := q, sequenceRun := 0, presentRun := if g.restart then 0 else l.presentRun
                voltage := fedVoltage, current := fedCurrent
                counters := { l.counters with
                  accepted := min (l.counters.accepted + 1) 4294967295
                  overrange := if e.vOvr || e.iOvr then min (l.counters.overrange + 1) 4294967295 else l.counters.overrange
                  restarts := if g.restart then min (l.counters.restarts + 1) 4294967295 else l.counters.restarts
                  } }).report (.vStuck x) fedVoltage.stuck).report (.iStuck x) fedCurrent.stuck).raiseIf
              (e.vOvr || e.iOvr) (.overrange x)).raiseIf g.restart (.feRestart x))

/-- R10, R11, R14, R33: the first accepted frame of a lane in LOST moves it to SEEK, with RESTART or without; and an accepted
RESTART frame in UP or SUSPECT empties the lane's queue and its phase's cycle memory and brings SEEK. The frame feeds the
detectors as any accepted frame does. That a RESTART frame's own codes are fed after the histories have restarted is the model's
reading (log 13). -/
def Obligations.AcceptedFrameBringsSeek : Prop :=
  ∀ (x : Phase) (f : LineFrame) (g : UpLaneFrame) (s : State) (l seeking : Lane) (e : SampleFrame)
    (voltage current fedVoltage fedCurrent : Detector), s.Ready → s.MonitorLaw → s.RangeLaw →
    l = s.lanes.get x → e = clampFrame g → parseLaneFrame f = some g → g.kind = 4 → g.lane = phaseNumber x + 1 →
    g.index ∈ s.aligner.openRange →
    voltage = (if g.restart then { l.voltage with previous := none, equalRun := 0 } else l.voltage) →
    current = (if g.restart then { l.current with previous := none, equalRun := 0 } else l.current) →
    fedVoltage = (if s.stuckLimit = 0 ∨ e.vFault = true then voltage else voltage.feed s.stuckLimit e.v) →
    fedCurrent = (if s.stuckLimit = 0 ∨ e.iFault = true ∨ s.engine.lowVoltage.get x = true then current
      else current.feed s.stuckLimit e.i) →
    seeking =
      { l with
        state := .seek, queue := [e], presentRun := 0, absentRun := 0, sequenceRun := 0
        periodPosition := 0, periodErrors := 0, voltage := fedVoltage, current := fedCurrent
        counters := { l.counters with
          accepted := min (l.counters.accepted + 1) 4294967295
          overrange := if e.vOvr || e.iOvr then min (l.counters.overrange + 1) 4294967295 else l.counters.overrange
          restarts := if g.restart then min (l.counters.restarts + 1) 4294967295 else l.counters.restarts } } →
    let entered := fun (memory : State) (left : Flag) =>
      exec (.upDirectionFrame x f) s =
        .next ((((((memory.withLane x seeking).report left false).report (.vStuck x) fedVoltage.stuck).report
          (.iStuck x) fedCurrent.stuck).raiseIf (e.vOvr || e.iOvr) (.overrange x)).raiseIf g.restart (.feRestart x))
    (l.state = .lost →
        entered (if l.voltage.stuck = false ∧ fedVoltage.stuck = true then s.withEmptyMemory x else s) (.laneLost x))
      ∧ ((l.state = .up ∨ l.state = .suspect) → g.restart = true → (∀ d ∈ l.queue, d.index ≠ g.index) →
        entered (s.withEmptyMemory x) (.laneSuspect x))

/-- R4, R12: a frame that answers a strobe whose set is released, up to eight strobes back, is counted late and nothing else;
so is a SAMPLE frame that a lane in TEST receives. -/
def Obligations.LateSampleIsOnlyCounted : Prop :=
  ∀ (x : Phase) (f : LineFrame) (g : UpLaneFrame) (s : State) (l : Lane), s.Ready → s.MonitorLaw → s.RangeLaw →
    l = s.lanes.get x → parseLaneFrame f = some g → g.kind = 4 → g.lane = phaseNumber x + 1 →
    (l.state = .test ∨ (l.state ≠ .off ∧ 4088 ≤ (g.index - s.aligner.oldest).toNat)) →
    exec (.upDirectionFrame x f) s =
      .next (s.withLane x
        { l with counters := { l.counters with late := min (l.counters.late + 1) 4294967295 } })

/-- R14, R15: a channel becomes stuck with the code that makes STUCK_LIMIT + 1 equal ones in a row, not before; a changed code
restarts the run; and a stuck channel, whose change-seen mark keeps every change inside its block of 64, clears at the end of its
fourth block in a row with a change in it. That the first code after none is no change is the model's reading (log 13). -/
def Obligations.StuckDetectorSetsAndClears : Prop :=
  ∀ (d : Detector) (limit : Nat) (code : Int) (run : Nat) (changed : Bool), 16 ≤ limit → limit ≤ 4000 →
    run = (if d.previous = some code then min (d.equalRun + 1) 4000 else 0) →
    changed = (d.changeSeen || decide (∃ p, d.previous = some p ∧ p ≠ code)) →
    (d.stuck = false → d.previous ≠ some code →
        (∀ n, 1 ≤ n → n ≤ limit → (((fun e => Detector.feed e limit code)^[n]) d).stuck = false
          ∧ (((fun e => Detector.feed e limit code)^[n]) d).equalRun = n - 1)
        ∧ (((fun e => Detector.feed e limit code)^[limit + 1]) d).stuck = true)
      ∧ (d.stuck = false → run < limit → d.feed limit code = { d with previous := some code, equalRun := run })
      ∧ (d.stuck = false → limit ≤ run →
          d.feed limit code =
            { previous := some code, equalRun := run, stuck := true, blockPosition := 0, changeSeen := false, goodBlocks := 0 })
      ∧ (d.stuck = true → d.blockPosition < 63 →
          d.feed limit code =
            { d with
              previous := some code, equalRun := run, blockPosition := d.blockPosition + 1, changeSeen := changed })
      ∧ (d.stuck = true → d.blockPosition = 63 → d.goodBlocks ≤ 3 →
          d.feed limit code =
            { previous := some code, blockPosition := 0, changeSeen := false
              stuck := !(changed && d.goodBlocks == 3)
              equalRun := if changed && d.goodBlocks == 3 then 0 else run
              goodBlocks := if changed then (if d.goodBlocks = 3 then 0 else d.goodBlocks + 1) else 0 })

/-- R13: the end of a quality period that is due judges the lane under Q_ASSERT and Q_CLEAR; before its 4000 sets it is not due
and nothing happens. -/
def Obligations.QualityPeriodEndJudgesTheLane : Prop :=
  ∀ (x : Phase) (s : State) (l ended : Lane) (m : Meter), s.resetApplied = false → s.MonitorLaw → l = s.lanes.get x →
    s.tables.meterActive = some m →
    ended = { l with lastPeriodErrors := l.periodErrors, periodPosition := 0, periodErrors := 0 } →
    ((l.state.waited = false ∨ l.periodPosition < 4000) → exec (.qualityPeriodEnd x) s = .next s)
      ∧ (4000 ≤ l.periodPosition → l.state = .up → l.periodErrors < m.qAssert →
          exec (.qualityPeriodEnd x) s = .next (s.withLane x ended))
      ∧ (4000 ≤ l.periodPosition → l.state = .up → m.qAssert ≤ l.periodErrors →
          exec (.qualityPeriodEnd x) s =
            .next ((s.withLane x { ended with state := .suspect }).report (.laneSuspect x) true))
      ∧ (4000 ≤ l.periodPosition → l.state = .suspect → l.periodErrors ≤ m.qClear →
          exec (.qualityPeriodEnd x) s =
            .next ((s.withLane x { ended with state := .up }).report (.laneSuspect x) false))
      ∧ (4000 ≤ l.periodPosition → (l.state = .seek ∨ (l.state = .suspect ∧ m.qClear < l.periodErrors)) →
          exec (.qualityPeriodEnd x) s = .next (s.withLane x ended))

/-! ### Aligner, arithmetic unit and capture -/

/-- R22, R2, R98, R148, R179, R181: a strobe carries the next index to every lane that is not OFF, joins the open range, and is
counted by the calendar, by the running watchdog and by the timebase of a lane in TEST, where it makes the index two before it
missing if that is still expected; that it does so before it is counted is the model's choice (log 24). A fail mark that it sets
comes with a raise of LINK_TEST_FAIL_x, and everything else is as it was. No expiry and no release is due before it (log 4). -/
def Obligations.StrobeIssuesTheNextIndex : Prop :=
  ∀ (s : State) (n : StrobeIndex), s.Ready → s.expiryDue = false → s.releaseDue = false → n = s.aligner.nextIndex →
    ∃ t, exec .strobe s = .next t
      ∧ (∀ x, t.lanes.get x =
          { s.lanes.get x with down := if (s.lanes.get x).state = .off then []
            else [{ kind := .strobe, lane := x, index := n, data := 0 }] })
      ∧ t.aligner =
          { s.aligner with nextIndex := n + 1, openRange := s.aligner.openRange ++ [n], latest := some n }
      ∧ t.calendar = { s.calendar with strobeCount := s.calendar.strobeCount + 1 }
      ∧ t.monitor.watchdogCount =
          (if s.monitor.watchdogRunning then s.monitor.watchdogCount + 1 else s.monitor.watchdogCount)
      ∧ t.monitor.expired = (if s.monitor.watchdogRunning
          then s.monitor.expired || decide (s.watchdogSeconds * 4000 ≤ s.monitor.watchdogCount + 1) else s.monitor.expired)
      ∧ (∀ x, let c := s.checkers.get x
          ((s.lanes.get x).state ≠ .test → t.checkers.get x = c)
            ∧ ((s.lanes.get x).state = .test →
              ∃ d, ((c.state = .hunting ∨ c.state = .synced) → c.expected = some (n - 2) → c.Missed d)
                ∧ ((c.state = .idle ∨ c.state = .seeding ∨ c.expected ≠ some (n - 2)) → d = c)
                ∧ t.checkers.get x = { d with
                    timebaseCount := if d.timebaseBegun then min (d.timebaseCount + 1) 16777216 else d.timebaseCount
                    failMark := d.failMark || (decide (d.timebase = .continuous)
                      && decide ((d.limitCode.toNat / 8) * 4 ^ (d.limitCode.toNat % 8) < d.running)) }))
      ∧ (let fails := fun x => (t.checkers.get x).failMark && !(s.checkers.get x).failMark
        let counted : State := { s with
          lanes := t.lanes, aligner := t.aligner, calendar := t.calendar, checkers := t.checkers
          monitor := { s.monitor with watchdogCount := t.monitor.watchdogCount, expired := t.monitor.expired } }
        t = ((counted.raiseIf (fails .a) (.linkTestFail .a)).raiseIf (fails .b) (.linkTestFail .b)).raiseIf
          (fails .c) (.linkTestFail .c))

/-- R24 to R29, R31, R32, R34, R35: the oldest open set is released when every lane that is waited for holds its frame, or at its
deadline, and each of its channels is present under the four tests of R25; a present code is pushed into its phase's memory, an
estimate takes the oldest code and pushes it back, and a voltage that is neither pushes nothing; the release that takes a lane
from UP or SUSPECT to LOST empties its phase's memory (R33). Before that nothing is released.
The mark `forNetting` is the model's (log 16). -/
def Obligations.ReleaseFormsTheSetRecord : Prop :=
  ∀ (s : State) (n : StrobeIndex) (rest : List StrobeIndex), s.Ready → s.aligner.openRange = n :: rest →
    let complete := ∀ x, (s.lanes.get x).state.waited = true → ∃ f ∈ (s.lanes.get x).queue, f.index = n
    (¬ complete → n + 2 ∉ s.aligner.openRange → exec .setRelease s = .next s)
      ∧ ((complete ∨ n + 2 ∈ s.aligner.openRange) →
        ∃ t r, exec .setRelease s = .next t ∧ t.released = s.released ++ [r] ∧ t.aligner.openRange = rest
          ∧ r.index = n ∧ r.forNetting = s.windowsRun
          ∧ (∀ x, let l := s.lanes.get x
              let found := l.queue.find? (fun f => f.index == n)
              let memory := s.aligner.cycles.get x
              let memory' := t.aligner.cycles.get x
              (∀ f, (l.state = .up ∨ l.state = .suspect) → found = some f →
                (l.voltage.stuck = false → f.vFault = false → (r.phases.get x).voltage = .present f.v
                  ∧ memory'.runCount = 0 ∧ memory'.estimated = memory.estimated
                  ∧ ∀ m, s.tables.meterActive = some m → memory'.codes =
                      (if memory.codes.length < m.cycleLen then memory.codes else memory.codes.drop 1) ++ [f.v])
                ∧ (l.voltage.stuck = true → (r.phases.get x).voltage = .absent ∧ memory' = memory)
                ∧ (l.current.stuck = false → f.iFault = false → (r.phases.get x).current = some f.i)
                ∧ ((l.current.stuck = true ∨ f.iFault = true) → (r.phases.get x).current = none)
                ∧ (l.voltage.stuck = false → f.vFault = true →
                    (∀ m, s.tables.meterActive = some m → m.subst < 2) →
                    (r.phases.get x).voltage = .absent ∧ memory' = memory)
                ∧ (∀ m, l.voltage.stuck = false → f.vFault = true → s.tables.meterActive = some m → m.subst = 2 →
                    ((r.phases.get x).current = none ∨ memory.codes.length ≠ m.cycleLen ∨ m.substMax ≤ memory.runCount) →
                    (r.phases.get x).voltage = .absent ∧ memory' = memory)
                ∧ (∀ m oldest older, l.voltage.stuck = false → f.vFault = true → (r.phases.get x).current.isSome = true →
                    s.tables.meterActive = some m → m.subst = 2 →
                    memory.codes = oldest :: older → older.length + 1 = m.cycleLen → memory.runCount < m.substMax →
                    (r.phases.get x).voltage = .estimated oldest
                      ∧ memory' = { codes := older ++ [oldest], runCount := memory.runCount + 1
                                    estimated := min (memory.estimated + 1) 4294967295 }))
              ∧ ((l.state.used = false ∨ found = none) →
                (r.phases.get x).voltage = .absent ∧ (r.phases.get x).current = none
                  ∧ memory'.estimated = memory.estimated
                  ∧ (l.state.used = true → l.absentRun = 7 → memory'.codes = [] ∧ memory'.runCount = 0)
                  ∧ ((l.state.used = false ∨ l.absentRun < 7) → memory' = memory)))
          ∧ (t.aligner.estimating = true ↔ ∃ x, (r.phases.get x).isEstimated = true)
          ∧ t.monitor.conditions.getLsbD 25 = t.aligner.estimating
          ∧ (∀ x, r.status.getLsbD (phaseNumber x) = (r.phases.get x).isPresent
              ∧ r.status.getLsbD (3 + phaseNumber x) = (r.phases.get x).isEstimated
              ∧ r.status.getLsbD (6 + phaseNumber x) = false)
          ∧ r.status.getLsbD 9 = s.aligner.windowClosed ∧ r.status.getLsbD 10 = s.aligner.bandChanged
          ∧ r.status.getLsbD 14 = s.aligner.directionReversed ∧ r.status.getLsbD 15 = s.windowsRun
          ∧ (r.status.getLsbD 11 = true ↔ ∃ m x, s.tables.meterActive = some m ∧ m.subst = 0
              ∧ m.lanes.testBit (phaseNumber x) = true ∧ (r.phases.get x).isPresent = false)
          ∧ (r.status.getLsbD 12 = true ↔ ∃ x, (s.lanes.get x).state = .suspect)
          ∧ (r.status.getLsbD 13 = true ↔ ∃ x f, (s.lanes.get x).state.used = true
              ∧ (s.lanes.get x).queue.find? (fun f => f.index == n) = some f ∧ (f.vOvr || f.iOvr) = true)
          ∧ t.aligner.windowClosed = false ∧ t.aligner.bandChanged = false ∧ t.aligner.directionReversed = false
          ∧ (t.history, t.completed, t.engine, t.requests, t.bank, t.calendar, t.demand)
              = (s.history, s.completed, s.engine, s.requests, s.bank, s.calendar, s.demand)
          ∧ (t.credits, t.timeNotices, t.tables, t.capture, t.checkers, t.pending)
              = (s.credits, s.timeNotices, s.tables, s.capture, s.checkers, s.pending)
          ∧ { t.link with urgent := s.link.urgent } = s.link)

/-- R6, R8, R9, R13: each lane's runs and quality period at the release of a set; a lane that becomes LOST holds its sequence run
at 0. That the release which makes a lane LOST leaves
the position of its quality period is the model's reading (log 12). -/
def Obligations.ReleaseMovesTheRunsOfALane : Prop :=
  ∀ (s t : State) (n : StrobeIndex) (rest : List StrobeIndex) (x : Phase) (l : Lane), s.Ready →
    s.aligner.openRange = n :: rest → s.releaseDue = true → l = s.lanes.get x → exec .setRelease s = .next t →
    let left := l.queue.filter (fun f => f.index != n)
    let held := l.queue.any (fun f => f.index == n)
    ((l.state = .off ∨ l.state = .test) → t.lanes.get x = l)
      ∧ (l.state = .lost → t.lanes.get x = { l with queue := left, absentRun := 0 })
      ∧ ((l.state = .up ∨ l.state = .suspect) → held = true →
          t.lanes.get x = { l with queue := left, absentRun := 0, periodPosition := l.periodPosition + 1 })
      ∧ (l.state = .seek → held = true → l.presentRun < 15 →
          t.lanes.get x =
            { l with queue := left, absentRun := 0, presentRun := l.presentRun + 1, periodPosition := l.periodPosition + 1 })
      ∧ (l.state = .seek → held = true → l.presentRun = 15 →
          t.lanes.get x =
            { l with
              state := .up, queue := left, absentRun := 0, presentRun := 0, periodPosition := l.periodPosition + 1 })
      ∧ (l.state.waited = true → held = false → l.absentRun < 7 →
          t.lanes.get x =
            { l with
              queue := left, absentRun := l.absentRun + 1, periodPosition := l.periodPosition + 1
              presentRun := if l.state = .seek then 0 else l.presentRun })
      ∧ (l.state.waited = true → held = false → l.absentRun = 7 →
          t.lanes.get x =
            { l with
              state := .lost, queue := [], absentRun := 0, sequenceRun := 0
              presentRun := if l.state = .seek then 0 else l.presentRun
              counters := { l.counters with lost := min (l.counters.lost + 1) 4294967295 }
              voltage := { l.voltage with previous := none, equalRun := 0 }
              current := { l.current with previous := none, equalRun := 0 } })

/-- R38, R42 to R50: the arithmetic of a completed set, written out, the voltage with its mark present or estimated; the set goes
to the capture unit in whatever state that is. That a set with its METERING mark goes to the netting engine only where the
model's own mark `forNetting` stands is the model's choice (log 16; R26 speaks of the METERING mark alone). -/
def Obligations.ArithmeticStepCompletesTheSet : Prop :=
  ∀ (s : State) (r : SetRecord) (rest : List SetRecord) (cal : PerPhase CalEntry), s.Ready → s.released = r :: rest →
    cal = (match s.tables.calActive with
      | some t => t
      | none => .all { vOfs := 0, vGain := 32768, iOfs := 0, iGain := 32768, delay := 0, polarity := 0 }) →
    let sat := fun y : Int => max (-524287) (min 524287 y)
    ∃ (c : CompletedSet) (i : PerPhase (Option Int)),
      (∀ x, let e := cal.get x
          i.get x = (r.phases.get x).current.map (fun raw =>
            (if e.polarity = 1 then -1 else 1) * sat (((raw - e.iOfs) * e.iGain + 16384) / 32768)))
        ∧ c.index = r.index
        ∧ (∀ x, let e := cal.get x
            let p := r.phases.get x
            let done := c.phases.get x
            (p.voltage = .absent → done.voltage = .absent ∧ done.square = none)
              ∧ (∀ raw v, v = sat (((raw - e.vOfs) * e.vGain + 16384) / 32768) →
                  (p.voltage = .present raw → done.voltage = .present v ∧ done.square = some (v * v))
                    ∧ (p.voltage = .estimated raw → done.voltage = .estimated v ∧ done.square = some (v * v)))
              ∧ (i.get x = none → done.current = none)
              ∧ (∀ now, i.get x = some now →
                  done.current = some ((256 * now + e.delay * ((s.history.get x).getD now - now) + 128) / 256))
              ∧ (∀ v a, (done.voltage = .present v ∨ done.voltage = .estimated v) → done.current = some a →
                  done.power = some (v * a))
              ∧ ((done.voltage = .absent ∨ done.current = none) → done.power = none)
              ∧ c.status.getLsbD (6 + phaseNumber x)
                  = (r.status.getLsbD (6 + phaseNumber x) || decide (∃ w, done.power = some w ∧ w < 0)))
        ∧ (∀ k, (k < 6 ∨ 8 < k) → c.status.getLsbD k = r.status.getLsbD k)
        ∧ exec .arithmeticStep s =
            .next (({ s with
              released := rest
              history := i
              completed := if r.forNetting && r.status.getLsbD 15 then s.completed ++ [c] else s.completed } :
                State).captureSet c)

/-- R41, R45, R47, R51: whatever the raw codes, under an installed CAL entry the calibrated and compensated values stay within
±524 287, the power within its square, and nothing is lost on the way. -/
def Obligations.CompletedValuesStayInRange : Prop :=
  ∀ (e : CalEntry) (history : Option Int) (p : SetPhase), e.Installed →
    (∀ h, history = some h → -524287 ≤ h ∧ h ≤ 524287) →
    let done := completePhase e history p
    (∀ v, (done.voltage = .present v ∨ done.voltage = .estimated v) → -524287 ≤ v ∧ v ≤ 524287)
      ∧ (∀ a, done.current = some a → -524287 ≤ a ∧ a ≤ 524287)
      ∧ (∀ w, done.power = some w → -274876858369 ≤ w ∧ w ≤ 274876858369)
      ∧ (∀ q, done.square = some q → 0 ≤ q ∧ q ≤ 274876858369)
      ∧ (∀ raw now, p.current = some raw → now = calibrateCurrent e raw →
          -524287 ≤ now ∧ now ≤ 524287
            ∧ ∀ a, done.current = some a →
                min now (history.getD now) ≤ a ∧ a ≤ max now (history.getD now))

/-- R172 to R174: how the capture unit takes a completed set in ARMED and in RUNNING, where the first set after CAPTURE TRIGGER
has its index recorded. -/
def Obligations.CaptureUnitTakesACompletedSet : Prop :=
  ∀ (s : State) (c : CompletedSet) (record : CaptureRecord),
    record =
      { index := c.index, status := c.status
        voltage := ⟨c.phases.a.voltage.code, c.phases.b.voltage.code, c.phases.c.voltage.code⟩
        current := ⟨c.phases.a.current, c.phases.b.current, c.phases.c.current⟩ } →
    let hit := fun e : TriggerEntry =>
      e.enabled = true ∧ ∀ k, k < 16 → e.mask.getLsbD k = false → c.status.getLsbD k = e.value.getLsbD k
    (s.capture.state = .idle → s.captureSet c = s)
      ∧ (s.capture.state = .armed → (∀ e ∈ s.tables.trigger, ¬ hit e) → s.captureSet c = s)
      ∧ (∀ (i : Fin 4) (e : TriggerEntry), s.capture.state = .armed → s.tables.trigger[i.val]? = some e → hit e →
          (∀ j < i.val, ∀ d, s.tables.trigger[j]? = some d → ¬ hit d) →
          s.captureSet c =
            ({ s with capture :=
              { s.capture with
                state := .running, source := .entry i, sourceIndex := some c.index, decimationCount := 0 } } :
              State).captureSet c)
      ∧ (s.capture.state = .running → s.capture.sourceIndex = none →
          s.captureSet c =
            ({ s with capture := { s.capture with sourceIndex := some c.index } } : State).captureSet c)
      ∧ (∀ n, s.capture.state = .running → s.capture.sourceIndex = some n → s.capture.decimationCount = 0 →
          let counted : Capture :=
            { s.capture with
              current := if s.capture.mode = .stream then s.capture.current else s.capture.current - 1
              decimationCount := if s.capture.decimation = 1 then 0 else 1 }
          (s.capture.queue.length < 32 →
              s.captureSet c = { s with capture := { counted with queue := s.capture.queue ++ [record] } })
            ∧ (32 ≤ s.capture.queue.length →
              s.captureSet c =
                ({ s with capture := { counted with overrun := min (s.capture.overrun + 1) 4294967295 } } : State).raise
                  .captureOverrun))
      ∧ (∀ n, s.capture.state = .running → s.capture.sourceIndex = some n → s.capture.decimationCount ≠ 0 →
          s.captureSet c =
            { s with capture := { s.capture with decimationCount :=
              if s.capture.decimationCount + 1 = s.capture.decimation then 0 else s.capture.decimationCount + 1 } })

/-- R173: terminal count ends a block under ONCE and rearms under REARM; where the block count stands above 0, or under STREAM,
it is not reached and nothing happens. -/
def Obligations.CaptureTerminalCountEndsTheBlock : Prop :=
  ∀ s : State, s.resetApplied = false →
    (s.capture.state = .running → s.capture.current = 0 → s.capture.mode = .once →
        exec .captureTerminalCount s = .next { s with capture := { s.capture with state := .idle } })
      ∧ (s.capture.state = .running → s.capture.current = 0 → s.capture.mode = .rearm →
        exec .captureTerminalCount s =
          .next { s with capture :=
            { s.capture with state := .armed, current := s.capture.base, source := .none, sourceIndex := none } })
      ∧ ((s.capture.state ≠ .running ∨ s.capture.current ≠ 0 ∨ s.capture.mode = .stream) →
        exec .captureTerminalCount s = .next s)

/-! ### Netting engine -/

/-- R60, R61, R62, R69, R86, R113, R115: a set that does not fill the window is accumulated for the phases whose lanes the
window's LANES mask enables, or counted alone where it is HOLD; that squares and set counts of a disabled phase stay at zero too
is the model's reading (log 33), and so is that UNMETERED follows the HOLD mark of the set (log 35). The interval counter counts
it (R119), under ALIGNED also where the clock has been set since it was loaded (log 36, the model's reading); and a window that it
opens carries the band in force, with the SWITCH requests that meet the empty window taken before it (log 28, the model's reading). A set that arrives in CONFIG is not processed. -/
def Obligations.SetProcessingAccumulates : Prop :=
  ∀ (s : State) (c : CompletedSet) (rest : List CompletedSet), s.Ready → s.completed = c :: rest →
    (s.engine.state = .config → exec .setProcessing s = .next { s with completed := rest })
      ∧ ∀ (w : Window) (m : Meter) (sums : PerPhase PhaseSums) (counted : Demand), s.MonitorLaw →
        s.engine.state ≠ .config → s.engine.window = some w → s.tables.meterActive = some m →
        let opening := w.opening.getD { day := s.calendar.day, minute := s.calendar.minute, meter := m }
        let band := if w.opening = none ∧ .switch ∈ s.requests then s.calendar.band else w.band
        let requests := if w.opening = none then s.requests.filter (fun r => decide (r ≠ .switch)) else s.requests
        (∀ x, sums.get x =
          if opening.meter.lanes.testBit (phaseNumber x) then
            { energy := (w.sums.get x).energy + (c.phases.get x).power.getD 0
              grossImp := (w.sums.get x).grossImp + ((c.phases.get x).power.getD 0).toNat
              grossExp := (w.sums.get x).grossExp + (-((c.phases.get x).power.getD 0)).toNat
              squares := (w.sums.get x).squares + (c.phases.get x).square.getD 0
              sets := (w.sums.get x).sets + if (c.phases.get x).square.isSome then 1 else 0 }
          else w.sums.get x) →
        counted = (if (s.demand.state = .running ∨ s.demand.state = .ending) ∧ s.demand.current ≠ 0 then
            { s.demand with
              current := s.demand.current - 1
              terminal := s.demand.terminal || decide (s.demand.current = 1) }
          else s.demand) →
        (w.count + 1 ≠ opening.meter.nw → c.status.getLsbD 11 = false →
            exec .setProcessing s =
              .next (({ s with
                completed := rest
                requests := requests
                demand := counted
                engine := { s.engine with
                  unmetered := false
                  window := some { count := w.count + 1, band := band, opening := some opening, sums := sums } } } :
                    State).report .unmetered false))
        ∧ (w.count + 1 ≠ opening.meter.nw → c.status.getLsbD 11 = true →
            exec .setProcessing s =
              .next (({ s with
                completed := rest
                requests := requests
                demand := counted
                engine := { s.engine with
                  unmetered := true
                  unmeteredCount := min (s.engine.unmeteredCount + 1) 4294967295
                  window := some { count := w.count + 1, band := band, opening := some opening, sums := w.sums } } } :
                    State).report .unmetered true))

/-- R63, R67, R119, R137: the set that fills the window closes it FULL as the last stage of its processing, with the installs
where apply requests are outstanding in METERING. That the interval counter counts the set, and ends the interval that it
completes, before the close is the model's choice (log 14), and that a loaded counter counts on under ALIGNED where the clock has
been set since is its reading (log 36). At an install, the demand unit's values under DEMAND_MODE OFF
(log 17) and the fate of an expiry that is due (log 34) are the model's choices too, and so is that squares and set counts of a
phase disabled in the window stay at zero (log 33). -/
def Obligations.FullWindowCloses : Prop :=
  ∀ (s base : State) (c : CompletedSet) (rest : List CompletedSet) (w filled : Window) (o : Opening) (m : Meter), s.Ready →
    s.completed = c :: rest → s.engine.state ≠ .config → s.engine.window = some w → w.opening = some o →
    s.tables.meterActive = some m → w.count + 1 = o.meter.nw →
    (filled.count, filled.band, filled.opening) = (o.meter.nw, w.band, some o) →
    (c.status.getLsbD 11 = true → filled.sums = w.sums) →
    (c.status.getLsbD 11 = false → ∀ x, filled.sums.get x =
      if o.meter.lanes.testBit (phaseNumber x) then
        { energy := (w.sums.get x).energy + (c.phases.get x).power.getD 0
          grossImp := (w.sums.get x).grossImp + ((c.phases.get x).power.getD 0).toNat
          grossExp := (w.sums.get x).grossExp + (-((c.phases.get x).power.getD 0)).toNat
          squares := (w.sums.get x).squares + (c.phases.get x).square.getD 0
          sets := (w.sums.get x).sets + if (c.phases.get x).square.isSome then 1 else 0 }
      else w.sums.get x) →
    let d := s.demand
    base = { s with
      completed := rest
      requests := if d.state = .running ∧ d.current = 1 then s.requests ++ [.interval] else s.requests
      demand :=
        if d.state = .running ∧ d.current = 1 then
          { d with
            state := .ending, stampDay := s.calendar.day, stampMinute := s.calendar.minute
            current := if s.demandMode = .oneShot then 0 else d.base }
        else if d.state = .ending ∧ d.current = 1 then { d with current := if s.demandMode = .oneShot then 0 else d.base }
        else if d.state = .running ∨ d.state = .ending then { d with current := d.current - 1 }
        else d
      engine := { s.engine with
        unmetered := c.status.getLsbD 11
        unmeteredCount := if c.status.getLsbD 11 then min (s.engine.unmeteredCount + 1) 4294967295
          else s.engine.unmeteredCount } } →
    ((s.tables.anyRequest = false ∨ s.engine.state = .failsafe) →
        ∃ t : State, exec .setProcessing s = .next t ∧ State.Closed base t filled o .full)
      ∧ (s.tables.anyRequest = true → s.engine.state = .metering →
        ∃ closed t : State, exec .setProcessing s = .next t ∧ State.Closed base closed filled o .full
          ∧ closed.InstalledAtClose t w.band)

/-- R64 to R67, R102, R137: an outstanding SWITCH, TIME or INTERVAL request, whichever was made first (log 28), closes a window
that holds sets, with the installs where apply requests are outstanding in METERING; what each does where the window holds none,
and in CONFIG; a request that is not made is not taken. At an install, the demand unit's values under DEMAND_MODE OFF (log 17) and
the fate of an expiry that is due (log 34) are the model's choices. -/
def Obligations.ForcedRequestsByTheOpenWindow : Prop :=
  ∀ (s taken : State) (w : Window) (request : ForcedCause), s.Ready →
    taken = { s with requests := s.requests.erase request } →
    (request ∉ s.requests → exec (.forcedCloseRequest request) s = .next s)
      ∧ (request ∈ s.requests → s.engine.state = .config →
          exec (.forcedCloseRequest request) s = .next taken)
      ∧ (request ∈ s.requests → s.engine.state ≠ .config → s.engine.window = some w → w.opening = none →
          (request = .switch → exec (.forcedCloseRequest request) s =
              .next { taken with engine := { s.engine with window := some { w with band := s.calendar.band } } })
          ∧ (request = .time → exec (.forcedCloseRequest request) s = .next taken)
          ∧ (request = .interval → exec (.forcedCloseRequest request) s =
              .next { taken with credits := s.credits ++
                [{ quanta := ⟨0, 0⟩, band := s.engine.lastCreditedBand.getD w.band, intervalEnd := true }] }))
      ∧ (∀ (o : Opening) (cause : CloseCause), request ∈ s.requests → s.engine.state ≠ .config →
          s.engine.window = some w → w.opening = some o →
          (request, cause) ∈ [(ForcedCause.switch, CloseCause.switch), (.time, .time), (.interval, .interval)] →
          ((s.tables.anyRequest = false ∨ s.engine.state = .failsafe) →
            ∃ t : State, exec (.forcedCloseRequest request) s = .next t ∧ State.Closed taken t w o cause)
          ∧ (s.tables.anyRequest = true → s.engine.state = .metering →
            ∃ closed t : State, exec (.forcedCloseRequest request) s = .next t ∧ State.Closed taken closed w o cause
              ∧ closed.InstalledAtClose t w.band))

/-- R68 to R71, R79: the shares of each mode, with what the creep test discards, phase by phase under GROSS and PHASE and for the
connection under SUM; import share minus export share plus the signed discard is the sum of the phases' energies; and SUM never
gives two nonzero shares. -/
def Obligations.NettingConservesEnergy : Prop :=
  ∀ (mode : NetMode) (creep : Nat) (sums : PerPhase PhaseSums) (r : Netted), r = net mode creep sums →
    let summed := fun f : PhaseSums → Int => f sums.a + f sums.b + f sums.c
    let total := summed PhaseSums.energy
    (mode = .gross →
        let flow := fun p : PhaseSums => p.grossImp + p.grossExp
        (r.aImp : Int) = summed (fun p => if flow p < creep then 0 else p.grossImp)
          ∧ (r.aExp : Int) = summed (fun p => if flow p < creep then 0 else p.grossExp)
          ∧ r.discard = summed (fun p => if flow p < creep then p.energy else 0))
      ∧ (mode = .phase →
        (r.aImp : Int) = summed (fun p => if p.energy.natAbs < creep then 0 else max p.energy 0)
          ∧ (r.aExp : Int) = summed (fun p => if p.energy.natAbs < creep then 0 else max (-p.energy) 0)
          ∧ r.discard = summed (fun p => if p.energy.natAbs < creep then p.energy else 0))
      ∧ (mode = .sum →
        (r.aImp : Int) = (if total.natAbs < creep then 0 else max total 0)
          ∧ (r.aExp : Int) = (if total.natAbs < creep then 0 else max (-total) 0)
          ∧ r.discard = (if total.natAbs < creep then total else 0)
          ∧ (r.aImp = 0 ∨ r.aExp = 0))
      ∧ ((∀ x, (sums.get x).energy = ((sums.get x).grossImp : Int) - (sums.get x).grossExp) →
        (r.aImp : Int) - r.aExp + r.discard = total)

/-- R75: over a run of checked windows above the trip level the state is WARN until the run reaches TRIP_COUNT and TRIP from
then on; a window below leaves TRIP only at or below the warning level. -/
def Obligations.ExportCheckTripsAfterItsRun : Prop :=
  ∀ (m : Meter) (aExp n : Nat), m.Installed → m.expTrip ≠ 0 →
    (m.expTrip * n < aExp → ∀ k, 1 ≤ k →
        (fun p : ExportState × Nat => (exportCheck m false aExp n p.1 p.2).2)^[k] (.normal, 0) =
          (if k < m.tripCount then .warn else .trip, min k m.tripCount))
      ∧ (∀ st count, exportCheck m true aExp n st count = (.skipped, st, count))
      ∧ (m.expWarn * n < aExp → aExp ≤ m.expTrip * n → ∀ count,
          (exportCheck m false aExp n .trip count).2 = (.trip, 0)
            ∧ (exportCheck m false aExp n .normal count).2 = (.warn, 0))
      ∧ (aExp ≤ m.expWarn * n → ∀ st count, (exportCheck m false aExp n st count).2 = (.normal, 0))

/-- R54, R112, R117, R148: START from CONFIG with both tables active; its two refusals. That the credits and the SET TIME notices
still on their way to the demand unit are dropped is the model's reading (log 16). -/
def Obligations.StartBeginsMetering : Prop :=
  ∀ (s : State) (rest : List (List Byte)) (m : Meter) (base : Nat), s.Executes 0x10#8 [] rest →
    base = (if m.demandMode = 1 ∨ m.demandMode = 2 ∨ (m.demandMode = 0 ∧ s.calendar.clockSet = false)
      then m.di * 240000 else 0) →
    (s.engine.state = .config → s.tables.calActive.isSome = true → s.tables.meterActive = some m → m.demandMode ≤ 3 →
        exec .start s =
          .next ((({ s with
            credits := []
            timeNotices := []
            engine := { s.engine with
              state := .metering
              window := some { count := 0, band := s.calendar.band, opening := none, sums := .all sumsZero }
              lastCreditedBand := none }
            monitor := { s.monitor with
              watchdogRunning := decide (m.watchdog ≠ 0), watchdogCount := 0, expired := false }
            demand := if m.demandMode = 3 then s.demand else
              { s.demand with
                state := .running, partialMark := true, sums := ⟨0, 0⟩, stampDay := 0, stampMinute := 0, base := base
                current := base, terminal := false } } : State).evaluate).answered rest 0x10#8 .ok []))
      ∧ (s.engine.state ≠ .config → exec .start s = .next (s.answered rest 0x10#8 .refusedState []))
      ∧ (s.engine.state = .config → (s.tables.calActive = none ∨ s.tables.meterActive = none) →
          exec .start s = .next (s.answered rest 0x10#8 .notReady []))

/-- R55, R89, R124, R137, R152: STOP with a window of zero sets enters CONFIG, where outstanding apply requests install and a
normalisation credits the band in force; in CONFIG it is refused. What is on its way between the blocks is dropped (log 16, the
model's reading of R55 and R64). -/
def Obligations.StopEntersConfig : Prop :=
  ∀ (s : State) (rest : List (List Byte)) (w : Window), s.Executes 0x11#8 [] rest → s.MonitorLaw →
    let idle : Demand :=
      { s.demand with
        state := .idle, partialMark := false, sums := ⟨0, 0⟩, base := 0, current := 0, terminal := false
        stampDay := 0, stampMinute := 0, restartPending := false }
    let engine : Engine := { s.engine with state := .config, window := none, unmetered := false }
    let new := s.tables.meterPending.clamped
    (s.engine.state = .config → exec .stop s = .next (s.answered rest 0x11#8 .refusedState []))
      ∧ (s.tables.anyRequest = false → s.engine.state ≠ .config → s.engine.window = some w → w.opening = none →
          exec .stop s =
            .next ((((({ s with
              engine := engine
              demand := idle
              monitor := { s.monitor with watchdogRunning := false, watchdogCount := 0, expired := false }
              requests := [], credits := [], timeNotices := [], completed := []
              released := s.released.map (fun r => { r with forNetting := false }) } : State).report .unmetered
                false).report .failsafe false).evaluate).answered rest 0x11#8 .ok []))
      ∧ (s.tables.anyRequest = true → s.engine.state ≠ .config → s.engine.window = some w → w.opening = none →
          ∃ t : State, exec .stop s = .next (t.answered rest 0x11#8 .ok [])
            ∧ t.engine = engine ∧ t.demand = idle ∧ t.monitor.watchdogRunning = false ∧ t.monitor.watchdogCount = 0
            ∧ t.tables = { s.tables with
                calActive := if s.tables.calRequest then some s.tables.calPending else s.tables.calActive
                meterActive := if s.tables.meterRequest then some new else s.tables.meterActive
                calendarActive := if s.tables.calendarRequest then some s.tables.calendarPending else s.tables.calendarActive
                calRequest := false, meterRequest := false, calendarRequest := false }
            ∧ t.monitor.latched.getLsbD 31 = true
            ∧ t.history = (if s.tables.calRequest then .all none else s.history)
            ∧ (t.calendar.band, t.calendar.source) = t.bandNow
            ∧ (s.tables.meterRequest = true → s.MeterInstalledAtLanes t)
            ∧ (s.tables.meterRequest = false → t.lanes = s.lanes)
            ∧ ((s.tables.meterRequest = false ∨ ∃ m, s.tables.meterActive = some m ∧ m.q = new.q) →
                t.bank = s.bank ∧ t.credits = [])
            ∧ (∀ m, s.tables.meterRequest = true → s.tables.meterActive = some m → m.q ≠ new.q →
                s.bank.accounts.Normalised t.bank.accounts new.q s.calendar.band ∧ t.bank.snapshot = s.bank.snapshot)
            ∧ (t.monitor.latched.getLsbD 30 = true ↔ s.monitor.latched.getLsbD 30 = true
              ∨ ∃ m, s.tables.meterRequest = true ∧ s.tables.meterActive = some m ∧ m.q ≠ new.q
                ∧ s.bank.accounts.Wraps new.q s.calendar.band ⟨0, 0⟩ (.all ⟨0, 0⟩))
            ∧ (t.requests, t.completed, t.timeNotices) = ([], [], [])
            ∧ (t.capture, t.pending) = (s.capture, s.pending))

/-- R55, R67, R124, R137, R152: STOP with a window that holds sets closes it with cause STOP, credits it, installs what is
requested in METERING, and enters CONFIG. That the credits and the requests on their way are dropped with it is the model's
reading (log 16). At an install of that close, the demand unit's values under DEMAND_MODE OFF (log 17) and the fate of an expiry
that is due (log 34) are the model's choices. -/
def Obligations.StopClosesTheOpenWindow : Prop :=
  ∀ (s : State) (rest : List (List Byte)) (w : Window) (o : Opening), s.Executes 0x11#8 [] rest →
    s.engine.state ≠ .config → s.engine.window = some w → w.opening = some o →
    ∃ t closed installed : State, exec .stop s = .next (t.answered rest 0x11#8 .ok [])
      ∧ State.Closed s closed w o .stop
      ∧ ((s.tables.anyRequest = false ∨ s.engine.state = .failsafe) → installed = closed)
      ∧ (s.tables.anyRequest = true → s.engine.state = .metering → closed.InstalledAtClose installed w.band)
      ∧ t.engine = { closed.engine with state := .config, window := none, unmetered := false }
      ∧ t.demand = { installed.demand with
          state := .idle, partialMark := false, sums := ⟨0, 0⟩, base := 0, current := 0, terminal := false
          stampDay := 0, stampMinute := 0, restartPending := false }
      ∧ (t.bank, t.tables, t.lanes, t.capture) = (installed.bank, installed.tables, installed.lanes, installed.capture)
      ∧ (t.checkers, t.history, t.pending) = (installed.checkers, installed.history, installed.pending)
      ∧ t.monitor.watchdogRunning = false ∧ t.monitor.watchdogCount = 0
      ∧ t.monitor.expired = false ∧ (t.resetApplied, t.monitor.mask) = (installed.resetApplied, installed.monitor.mask)
      ∧ { t.link with urgent := closed.link.urgent } = closed.link ∧ t.aligner.windowClosed = true
      ∧ (t.calendar.band, t.calendar.source) = t.bandNow
      ∧ { t.calendar with band := s.calendar.band, source := s.calendar.source } = s.calendar
      ∧ t.released = s.released.map (fun r => { r with forNetting := false }) ∧ t.freeChoices = installed.freeChoices
      ∧ (t.requests, t.credits, t.timeNotices, t.completed) = ([], [], [], [])

/-- R57, R152: RESUME leaves FAILSAFE for METERING with the window as it stands; elsewhere it is refused. -/
def Obligations.ResumeLeavesFailsafe : Prop :=
  ∀ (s u : State) (rest : List (List Byte)), s.Executes 0x12#8 [] rest → s.MonitorLaw →
    u = ({ s with engine := { s.engine with state := .metering } } : State).report .failsafe false →
    (s.engine.state = .failsafe →
        exec .resume s =
          .next ((({ u with
            monitor := { u.monitor with
              watchdogRunning := decide (s.watchdogSeconds ≠ 0), watchdogCount := 0, expired := false } } :
                State).evaluate).answered rest 0x12#8 .ok []))
      ∧ (s.engine.state ≠ .failsafe → exec .resume s = .next (s.answered rest 0x12#8 .refusedState []))

/-- R21, R37, R46, R58, R114, R124, R140, R153, R164, R176, R182: ENGINE RESET, executed in every engine state. That what is on its
way between the blocks is dropped is the model's reading (log 16). -/
def Obligations.EngineResetRestoresTheBlocks : Prop :=
  ∀ (s : State) (rest : List (List Byte)), s.Executes 0x13#8 [] rest →
    ∃ t : State, exec .engineReset s = .next (t.answered rest 0x13#8 .ok [])
      ∧ (∀ x, (t.lanes.get x).queue = [] ∧ (t.lanes.get x).counters = laneCountersAtPowerOn
          ∧ (t.lanes.get x).voltage = detectorAtPowerOn ∧ (t.lanes.get x).current = detectorAtPowerOn
          ∧ ((t.lanes.get x).presentRun, (t.lanes.get x).absentRun, (t.lanes.get x).sequenceRun) = (0, 0, 0)
          ∧ ((t.lanes.get x).periodPosition, (t.lanes.get x).periodErrors, (t.lanes.get x).lastPeriodErrors) = (0, 0, 0)
          ∧ (t.lanes.get x).state = (if s.enabled x then .seek else .off)
          ∧ (t.checkers.get x) = (if (s.lanes.get x).state = .test then { s.checkers.get x with state := .idle }
              else s.checkers.get x)
          ∧ ((s.lanes.get x).state ≠ .test → (t.lanes.get x).down = (s.lanes.get x).down)
          ∧ (∀ n, (s.lanes.get x).state = .test → s.aligner.latest = some n → (t.lanes.get x).down =
              (s.lanes.get x).down ++ [{ kind := .testExit, lane := x, index := n, data := 0 }])
          ∧ t.history.get x = none ∧ (t.aligner.cycles.get x).codes = [] ∧ (t.aligner.cycles.get x).runCount = 0
          ∧ (t.aligner.cycles.get x).estimated = (s.aligner.cycles.get x).estimated)
      ∧ { t.aligner with cycles := s.aligner.cycles } =
          { s.aligner with
            openRange := [], restartPoint := s.aligner.latest, windowClosed := false, bandChanged := false
            directionReversed := false, estimating := false }
      ∧ t.engine =
          { s.engine with
            state := .config, window := none, exportState := .normal, consecutive := 0, unmetered := false
            lowVoltage := .all false, lastDirection := .all none, lastCreditedBand := none }
      ∧ t.bank = s.bank
      ∧ t.demand = { s.demand with
          state := .idle, partialMark := false, sums := ⟨0, 0⟩, base := 0, current := 0, terminal := false
          stampDay := 0, stampMinute := 0, restartPending := false }
      ∧ t.tables = { s.tables with calRequest := false, meterRequest := false, calendarRequest := false }
      ∧ { t.calendar with band := s.calendar.band, source := s.calendar.source } = s.calendar
      ∧ (t.calendar.band, t.calendar.source) = t.bandNow
      ∧ t.monitor.mask = s.monitor.mask ∧ t.monitor.watchdogRunning = false ∧ t.monitor.watchdogCount = 0
      ∧ t.monitor.expired = false
      ∧ t.monitor.conditions = (if s.calendar.clockSet then 0 else Flag.clockNotSet.bit)
      ∧ t.monitor.latched = (if s.calendar.clockSet then 0 else Flag.clockNotSet.bit)
          ||| (if s.tables.anyRequest then Flag.applyCancelled.bit else 0)
      ∧ t.monitor.alert = decide (t.monitor.latched &&& ~~~s.monitor.mask ≠ 0)
      ∧ t.link = { s.link with reports := [], reportInProgress := none, urgent := none, paused := false }
      ∧ t.capture =
          { s.capture with
            state := .idle, queue := [], source := .none, sourceIndex := none, current := 0, decimationCount := 0
            overrun := 0 }
      ∧ (t.requests, t.credits, t.timeNotices, t.completed) = ([], [], [], [])
      ∧ t.released = s.released.map (fun r => { r with forNetting := false })
      ∧ (t.resetApplied, t.freeChoices, t.pending) = (s.resetApplied, s.freeChoices, s.pending)

/-! ### Register bank -/

/-- R83, R84, R91: over any run of credits, each with the quantum in force at it, a chain's shares are its quanta at their
sizes and the residue it is left with; the residue stays below the quantum; and the register moves by the quanta modulo 2^48.
R84, R86, R88: a credit step raises ENERGY_ROLLOVER once where some register passes its top, and no flag elsewhere. -/
def Obligations.ChainConservesEnergy : Prop :=
  (∀ (run : List (Nat × Nat)) (residue register : Nat), (∀ p ∈ run, 0 < p.1) →
    let after := run.foldl (fun (c : Nat × Nat × Nat × Nat) p =>
      let d := chainStep p.1 c.1 c.2.1 p.2
      (d.residue, d.register, c.2.2.1 + d.quanta, c.2.2.2 + d.quanta * p.1)) (residue, register, 0, 0)
    residue + (run.map Prod.snd).sum = after.1 + after.2.2.2
      ∧ (∀ q share, run.getLast? = some (q, share) → after.1 < q)
      ∧ (run ≠ [] → after.2.1 = (register + after.2.2.1) % 281474976710656))
    ∧ ∀ (s : State) (q : Nat) (b : Band) (shares : Flows) (gross : PerPhase Flows) (mark : Bool),
        (s.bank.accounts.Wraps q b shares gross →
          (s.creditBank q b shares gross mark).monitor = (s.raise .energyRollover).monitor)
        ∧ (¬ s.bank.accounts.Wraps q b shares gross → (s.creditBank q b shares gross mark).monitor = s.monitor)

/-- R92, R96: the register that PRELOAD names takes the value and the update count moves; the checks in their order. -/
def Obligations.PreloadReplacesOneRegister : Prop :=
  ∀ (s : State) (rest : List (List Byte)) (p : List Byte) (v : Nat) (acc : Accounts), s.Executes 0x23#8 p rest →
    p.length = 10 → v = beNat (p.drop 2) →
    acc = { s.bank.accounts with updateCount := (s.bank.accounts.updateCount + 1) % 4294967296 } →
    let cls := (p.getD 0 0).toNat
    let index := (p.getD 1 0).toNat
    let done := fun a : Accounts =>
      exec .preload s = .next (({ s with bank := { s.bank with accounts := a } } : State).answered rest 0x23#8 .ok [])
    (s.engine.state ≠ .config → exec .preload s = .next (s.answered rest 0x23#8 .refusedState []))
      ∧ (s.engine.state = .config →
          (3 < cls ∨ (cls < 2 ∧ 7 < index) ∨ (2 ≤ cls ∧ 2 < index) ∨ 281474976710656 ≤ v) →
          exec .preload s = .next (s.answered rest 0x23#8 .refusedRange []))
      ∧ (s.engine.state = .config → v < 281474976710656 →
          (∀ b : Band, index = b.val →
              (cls = 0 → done { acc with bandImp := acc.bandImp.set b v })
              ∧ (cls = 1 → done { acc with bandExp := acc.bandExp.set b v }))
          ∧ ∀ x : Phase, index = phaseNumber x →
              (cls = 2 → done { acc with gross := acc.gross.set x { acc.gross.get x with imp := v } })
              ∧ (cls = 3 → done { acc with gross := acc.gross.set x { acc.gross.get x with exp := v } }))

/-- R94: SNAPSHOT copies the bank, the clock and the engine at one moment. -/
def Obligations.SnapshotCopiesOneMoment : Prop :=
  ∀ (s : State) (rest : List (List Byte)), s.Executes 0x21#8 [] rest →
    ∃ record : Snapshot,
      exec .snapshot s =
          .next (({ s with bank := { s.bank with snapshot := record } } : State).answered rest 0x21#8 .ok [])
        ∧ record.taken = true ∧ record.accounts = s.bank.accounts
        ∧ (s.tables.meterActive = none → record.q = 0) ∧ (∀ m, s.tables.meterActive = some m → record.q = m.q)
        ∧ record.day = s.calendar.day ∧ record.minute = s.calendar.minute ∧ record.clockSet = s.calendar.clockSet
        ∧ record.engine = s.engine.state ∧ record.sequence = s.engine.sequence
        ∧ (∀ w, s.engine.window = some w → record.band = w.band)
        ∧ (s.engine.window = none → record.band = s.calendar.band)

/-! ### Calendar -/

/-- R104, R110, R111, R113: what an evaluation finds, step by step, in FAILSAFE with a FAILSAFE_BAND of 8 as in the other engine
states, and what a changed band does. -/
def Obligations.EvaluationFindsTheBandInForce : Prop :=
  ∀ (s : State) (b : Band) (source : BandSource), s.bandNow = (b, source) →
    let free := s.engine.state ≠ .failsafe ∨ ∃ m : Meter, s.tables.meterActive = some m ∧ m.failsafeBand = 8
    ((b = s.calendar.band → s.evaluate = { s with calendar := { s.calendar with source := source } })
      ∧ (b ≠ s.calendar.band →
          s.evaluate =
            { s with
              calendar := { s.calendar with band := b, source := source }
              aligner := { s.aligner with bandChanged := true }
              requests := if s.engine.state = .config then s.requests else s.requests ++ [.switch] }))
    ∧ (∀ m : Meter, s.tables.meterActive = some m → s.engine.state = .failsafe → m.failsafeBand < 8 →
        b.val = m.failsafeBand ∧ source = .failsafe)
    ∧ (∀ m : Meter, s.tables.meterActive = some m → (s.engine.state ≠ .failsafe ∨ m.failsafeBand = 8) →
        s.calendar.clockSet = false → m.unsetBand ≤ 7 → b.val = m.unsetBand ∧ source = .unset)
    ∧ (s.tables.meterActive = none → s.calendar.clockSet = false → b = 0 ∧ source = .unset)
    ∧ (free → s.calendar.clockSet = true → s.tables.calendarActive = none → b = 0 ∧ source = .noTable)
    ∧ (∀ (t : CalendarTable) (profile : Nat) (used : List SwitchPoint), free →
        s.calendar.clockSet = true → s.tables.calendarActive = some t →
        ((∃ e ∈ s.calendar.specialDays, e.day = s.calendar.day ∧ e.profile = profile
            ∧ ∀ d ∈ s.calendar.specialDays, d.day = s.calendar.day → d = e)
          ∨ ((∀ e ∈ s.calendar.specialDays, e.day ≠ s.calendar.day)
            ∧ t.week[(s.calendar.day + t.offset) % 7]? = some profile)) →
        used = ((t.points.drop (12 * profile)).take 12).filter (fun p => p.minute != 65535) →
        (∀ p ∈ used, p.band ≤ 7) → used.Pairwise (fun p q => p.minute < q.minute) →
        source = .profile
          ∧ (used = [] → b = 0)
          ∧ (∀ p ∈ used, p.minute ≤ s.calendar.minute →
              (∀ q ∈ used, q.minute ≤ s.calendar.minute → q.minute ≤ p.minute) → b.val = p.band)
          ∧ ((∀ p ∈ used, s.calendar.minute < p.minute) → ∀ p, used.getLast? = some p → b.val = p.band))

/-- R101: SET TIME loads the clock, prunes the list, requests the TIME close before the evaluation's SWITCH, and notifies the
demand unit; a minute above 1439 is refused. -/
def Obligations.SetTimeLoadsTheClock : Prop :=
  ∀ (s : State) (rest : List (List Byte)) (p : List Byte) (day minute strobes : Nat), s.Executes 0x30#8 p rest →
    p.length = 7 → s.calendar.specialDays.Pairwise (fun d e => d.day < e.day) →
    day = beNat (p.take 2) → minute = beNat ((p.drop 2).take 2) → strobes = beNat (p.drop 4) →
    (1439 < minute → exec .setTime s = .next (s.answered rest 0x30#8 .refusedRange []))
      ∧ (minute ≤ 1439 →
          exec .setTime s =
            .next (((({ s with
              calendar := { s.calendar with
                day := day, minute := minute, strobeCount := min 239999 strobes, clockSet := true
                specialDays := s.calendar.specialDays.filter (fun d => decide (day ≤ d.day)) }
              requests := if s.engine.state = .config then s.requests else s.requests ++ [.time]
              timeNotices := s.timeNotices ++ [minute] } : State).report .clockNotSet false).evaluate).answered rest
                0x30#8 (if 239999 < strobes then .clamped else .ok) []))

/-- R98, R99, R109, R118: the minute rollover, and the day rollover with it; before 240 000 strobes neither happens. -/
def Obligations.MinuteRolloverAdvancesTheClock : Prop :=
  ∀ (s u : State) (c : Calendar), s.resetApplied = false → u = ({ s with calendar := c } : State).evaluate →
    (s.calendar.strobeCount < 240000 → exec .minuteRollover s = .next s)
      ∧ (240000 ≤ s.calendar.strobeCount →
          s.calendar.specialDays.Pairwise (fun d e => d.day < e.day) →
          c = (if s.calendar.minute = 1439 then
              { s.calendar with
                strobeCount := 0, minute := 0, day := if s.calendar.day < 65535 then s.calendar.day + 1 else 65535
                specialDays := if s.calendar.clockSet then s.calendar.specialDays.filter
                  (fun d => decide ((if s.calendar.day < 65535 then s.calendar.day + 1 else 65535) ≤ d.day))
                  else s.calendar.specialDays }
            else { s.calendar with strobeCount := 0, minute := s.calendar.minute + 1 }) →
          ((s.demandMode = .aligned ∧ s.calendar.clockSet = true ∧ c.minute % s.demandMinutes = 0
              ∧ s.demand.state = .running) →
            exec .minuteRollover s =
              .next { u with
                demand := { s.demand with state := .ending, stampDay := c.day, stampMinute := c.minute }
                requests := u.requests ++ [.interval] })
          ∧ (¬ (s.demandMode = .aligned ∧ s.calendar.clockSet = true ∧ c.minute % s.demandMinutes = 0
              ∧ s.demand.state = .running) →
            exec .minuteRollover s = .next u))

/-- R106, R107: ADD SPECIAL DAY and REMOVE SPECIAL DAY, with their refusals; the list keeps its order. -/
def Obligations.SpecialDayListIsEdited : Prop :=
  ∀ (s : State) (rest : List (List Byte)) (p : List Byte) (day profile : Nat) (l : List SpecialDay),
    l = s.calendar.specialDays → l.Pairwise (fun d e => d.day < e.day) →
    (s.Executes 0x32#8 p rest → p.length = 3 → day = beNat (p.take 2) → profile = beNat (p.drop 2) →
      ((7 < profile ∨ (s.calendar.clockSet = true ∧ day < s.calendar.day)) →
        exec .addSpecialDay s = .next (s.answered rest 0x32#8 .refusedRange []))
      ∧ (profile ≤ 7 → (s.calendar.clockSet = true → s.calendar.day ≤ day) →
          ((∀ e ∈ l, e.day ≠ day) → 16 ≤ l.length →
              exec .addSpecialDay s = .next (s.answered rest 0x32#8 .listFull []))
          ∧ (((∃ e ∈ l, e.day = day) ∨ l.length < 16) →
              ∃ l' : List SpecialDay,
                (∀ e, e ∈ l' ↔ e = { day := day, profile := profile } ∨ (e ∈ l ∧ e.day ≠ day))
                  ∧ l'.Pairwise (fun d e => d.day < e.day)
                  ∧ exec .addSpecialDay s =
                      .next ((({ s with calendar := { s.calendar with specialDays := l' } } :
                        State).evaluate).answered rest 0x32#8 .ok []))))
      ∧ (s.Executes 0x33#8 p rest → p.length = 2 → day = beNat p →
        ((∀ e ∈ l, e.day ≠ day) → exec .removeSpecialDay s = .next (s.answered rest 0x33#8 .notFound []))
        ∧ ((∃ e ∈ l, e.day = day) →
            exec .removeSpecialDay s =
              .next ((({ s with calendar :=
                { s.calendar with specialDays := l.filter (fun e => decide (e.day ≠ day)) } } :
                  State).evaluate).answered rest 0x33#8 .ok [])))

/-! ### Demand unit -/

/-- R117, R121: what the demand unit does with a credit in each of its states. -/
def Obligations.DemandCreditByIntervalState : Prop :=
  ∀ (s taken : State) (c : Credit) (rest : List Credit) (summed compared : Demand), s.Ready → s.credits = c :: rest →
    taken = { s with credits := rest } →
    summed = { s.demand with sums := ⟨s.demand.sums.imp + c.quanta.imp, s.demand.sums.exp + c.quanta.exp⟩ } →
    (compared = if s.demand.partialMark then summed else
      { summed with records :=
        { imp := summed.records.imp.set c.band
            (if (summed.records.imp.get c.band).value < min summed.sums.imp 4294967295
              then ⟨min summed.sums.imp 4294967295, s.demand.stampDay, s.demand.stampMinute⟩
              else summed.records.imp.get c.band)
          exp := summed.records.exp.set c.band
            (if (summed.records.exp.get c.band).value < min summed.sums.exp 4294967295
              then ⟨min summed.sums.exp 4294967295, s.demand.stampDay, s.demand.stampMinute⟩
              else summed.records.exp.get c.band) } }) →
    ((s.demand.state = .idle ∨ s.demand.state = .done) → exec .demandCredit s = .next taken)
      ∧ ((s.demand.state = .running ∨ (s.demand.state = .ending ∧ c.intervalEnd = false)) →
          exec .demandCredit s = .next { taken with demand := summed })
      ∧ (s.demand.state = .ending → c.intervalEnd = true → s.demandMode = .free →
          exec .demandCredit s =
            .next { taken with demand :=
              { compared with
                state := .running, partialMark := false, sums := ⟨0, 0⟩, stampDay := 0, stampMinute := 0
                base := s.demandMinutes * 240000 } })
      ∧ (s.demand.state = .ending → c.intervalEnd = true → s.demandMode = .aligned → s.calendar.clockSet = true →
          exec .demandCredit s =
            .next { taken with demand :=
              { compared with
                state := .running, partialMark := false, sums := ⟨0, 0⟩, stampDay := 0, stampMinute := 0
                base := 0, current := 0, terminal := false } })
      ∧ (s.demand.state = .ending → c.intervalEnd = true → s.demandMode = .aligned → s.calendar.clockSet = false →
          exec .demandCredit s =
            .next { taken with demand :=
              { compared with
                state := .running, partialMark := true, sums := ⟨0, 0⟩, stampDay := 0, stampMinute := 0
                base := s.demandMinutes * 240000 } })
      ∧ (s.demand.state = .ending → c.intervalEnd = true → s.demandMode = .oneShot → s.demand.restartPending = false →
          exec .demandCredit s =
            .next (({ taken with demand := { compared with state := .done, sums := ⟨0, 0⟩ } } : State).raise .demandDone))
      ∧ (s.demand.state = .ending → c.intervalEnd = true → s.demandMode = .oneShot → s.demand.restartPending = true →
          exec .demandCredit s =
            .next { taken with demand :=
              { compared with
                state := .running, partialMark := false, sums := ⟨0, 0⟩, stampDay := 0, stampMinute := 0
                restartPending := false, base := s.demandMinutes * 240000, current := s.demandMinutes * 240000
                terminal := false } })

/-- R119, R120: the terminal count of the interval counter reloads it, but under ONE_SHOT, and ends a RUNNING interval with its
stamp and one INTERVAL request. That it does so under ALIGNED where the clock has been set since the interval began is the
model's reading (log 36). -/
def Obligations.TerminalCountEndsTheInterval : Prop :=
  ∀ (s : State) (counter : Demand), s.resetApplied = false →
    counter = { s.demand with terminal := false, current := if s.demandMode = .oneShot then 0 else s.demand.base } →
    (s.demand.terminal = false → exec .terminalCount s = .next s)
      ∧ (s.demand.terminal = true → s.demand.state = .running →
          exec .terminalCount s =
            .next { s with
              demand := { counter with
                state := .ending, stampDay := s.calendar.day, stampMinute := s.calendar.minute }
              requests := s.requests ++ [.interval] })
      ∧ (s.demand.terminal = true → s.demand.state ≠ .running → exec .terminalCount s = .next { s with demand := counter })

/-- R122: a SET TIME notice abandons an ALIGNED interval without comparison and begins a partial one; elsewhere it has no
effect. -/
def Obligations.SetTimeNoticeAbandonsAnAlignedInterval : Prop :=
  ∀ (s taken : State) (minute base : Nat) (rest : List Nat), s.Ready →
    base = (if s.calendar.clockSet then 0 else s.demandMinutes * 240000) → taken = { s with timeNotices := rest } →
    (s.timeNotices = [] → exec .setTimeNotice s = .next s)
      ∧ (s.timeNotices = minute :: rest → s.demandMode = .aligned → s.engine.state ≠ .config →
          (s.demand.state = .running ∨ s.demand.state = .ending) →
          exec .setTimeNotice s =
            .next { taken with demand :=
              { s.demand with
                state := .running, partialMark := true, sums := ⟨0, 0⟩, stampDay := 0, stampMinute := 0, base := base
                current := base, terminal := false } })
      ∧ (s.timeNotices = minute :: rest →
          (s.demandMode ≠ .aligned ∨ s.engine.state = .config ∨ s.demand.state = .idle ∨ s.demand.state = .done) →
          exec .setTimeNotice s = .next taken)

/-- R125, R126: RESET DEMAND copies and clears the records, and restarts a ONE_SHOT interval. -/
def Obligations.ResetDemandCopiesAndClears : Prop :=
  ∀ (s : State) (rest : List (List Byte)) (cleared : Demand), s.Executes 0x39#8 [] rest →
    (cleared.records = ⟨Vector.replicate 8 ⟨0, 0, 0⟩, Vector.replicate 8 ⟨0, 0, 0⟩⟩
      ∧ { cleared with records := s.demand.records, previous := s.demand.previous, resetCount := s.demand.resetCount } = s.demand
      ∧ cleared.previous = s.demand.records ∧ cleared.resetCount = min (s.demand.resetCount + 1) 65535) →
    ((s.demandMode ≠ .oneShot ∨ s.demand.state = .idle) →
        exec .resetDemand s = .next (({ s with demand := cleared } : State).answered rest 0x39#8 .ok []))
      ∧ (s.demandMode = .oneShot → s.demand.state = .ending →
        exec .resetDemand s =
          .next (({ s with demand := { cleared with restartPending := true } } : State).answered rest 0x39#8 .ok []))
      ∧ (s.demandMode = .oneShot → (s.demand.state = .running ∨ s.demand.state = .done) →
        exec .resetDemand s =
          .next (({ s with demand :=
            { cleared with
              state := .running, partialMark := false, sums := ⟨0, 0⟩, stampDay := 0, stampMinute := 0
              base := s.demandMinutes * 240000, current := s.demandMinutes * 240000, terminal := false } } :
                State).answered rest 0x39#8 .ok []))

/-! ### Table store -/

/-- R130, R131, R133, R139: WRITE TABLE replaces the named bytes of the canonical image of the pending copy (of the live copy,
for TRIGGER) and nothing else, or is refused and changes no entry; CANCEL APPLY withdraws the request. -/
def Obligations.WriteAndCancelActOnThePendingCopy : Prop :=
  ∀ (s : State) (rest : List (List Byte)) (name : TableName) (last : Nat), s.TableLaw →
    (name, last) ∈ [(TableName.cal, 2), (.meter, 20), (.calendar, 103), (.trigger, 3)] →
    (∀ (first : Byte) (count : Nat) (bytes : List Byte), s.Executes 0x41#8 (name.number :: first :: bytes) rest → 1 ≤ count →
      bytes.length = name.offset (first.toNat + count) - name.offset first.toNat →
      let refused := fun status => exec .writeTable s = .next (s.answered rest 0x41#8 status [])
      let marks := ∀ j < count, (bytes.getD (5 * j) 0).toNat ≤ 1
      (name = .trigger → s.capture.state ≠ .idle → refused .refusedState)
        ∧ ((name ≠ .trigger ∨ s.capture.state = .idle) → last < first.toNat + count - 1 → refused .refusedRange)
        ∧ (first.toNat + count - 1 ≤ last → s.tables.request name = true → refused .staged)
        ∧ (name = .trigger → s.capture.state = .idle → first.toNat + count - 1 ≤ last → ¬ marks → refused .refusedRange)
        ∧ (first.toNat + count - 1 ≤ last → s.tables.request name = false →
            (name = .trigger → s.capture.state = .idle ∧ marks) →
            ∃ t : Tables,
              exec .writeTable s = .next (({ s with tables := t } : State).answered rest 0x41#8 .ok [])
                ∧ image (t.pendingEntries name) =
                    (image (s.tables.pendingEntries name)).take (name.offset first.toNat) ++ bytes
                      ++ (image (s.tables.pendingEntries name)).drop (name.offset (first.toNat + count))
                ∧ (name ≠ .cal → t.calPending = s.tables.calPending)
                ∧ (name ≠ .meter → t.meterPending = s.tables.meterPending)
                ∧ (name ≠ .calendar → t.calendarPending = s.tables.calendarPending)
                ∧ (name ≠ .trigger → t.trigger = s.tables.trigger)
                ∧ (t.calActive, t.meterActive, t.calendarActive)
                    = (s.tables.calActive, s.tables.meterActive, s.tables.calendarActive)
                ∧ (t.calRequest, t.meterRequest, t.calendarRequest)
                    = (s.tables.calRequest, s.tables.meterRequest, s.tables.calendarRequest)))
      ∧ (∀ (first : Byte) (bytes : List Byte), s.Executes 0x41#8 (name.number :: first :: bytes) rest →
          (∀ count, 1 ≤ count → bytes.length ≠ name.offset (first.toNat + count) - name.offset first.toNat) →
          exec .writeTable s = .next (s.answered rest 0x41#8 .badCommand []))
      ∧ (∀ (number first b : Byte) (bytes : List Byte), s.Executes 0x41#8 (number :: first :: b :: bytes) rest →
          3 < number.toNat → exec .writeTable s = .next (s.answered rest 0x41#8 .refusedRange []))
      ∧ (∀ p : List Byte, s.Executes 0x41#8 p rest → p.length < 3 →
          exec .writeTable s = .next (s.answered rest 0x41#8 .badCommand []))
      ∧ (∀ number : Byte, s.Executes 0x43#8 [number] rest →
          (2 < number.toNat → exec .cancelApply s = .next (s.answered rest 0x43#8 .refusedRange []))
          ∧ (number.toNat ≤ 2 → number = name.number → s.tables.request name = false →
              exec .cancelApply s = .next (s.answered rest 0x43#8 .notFound []))
          ∧ (number.toNat ≤ 2 → number = name.number → s.tables.request name = true →
              ∃ t : Tables,
                exec .cancelApply s = .next (({ s with tables := t } : State).answered rest 0x43#8 .ok [])
                  ∧ { t with
                      calRequest := s.tables.calRequest, meterRequest := s.tables.meterRequest
                      calendarRequest := s.tables.calendarRequest } = s.tables
                  ∧ t.request name = false ∧ ∀ other, other ≠ name → t.request other = s.tables.request other))

/-- R134, R136, R137, with R20, R36, R88: APPLY TABLE takes its checks in their order, records a request in METERING, and
installs in CONFIG. That a byte ahead of the index of the first clamped field says whether there is one is the model's reading
(log 20). -/
def Obligations.ApplyTableChecksAndInstalls : Prop :=
  ∀ (s : State) (rest : List (List Byte)) (name : TableName) (number c1 c2 : Byte) (crc : BitVec 16),
    s.Executes 0x42#8 [number, c1, c2] rest → s.MonitorLaw → s.TableLaw →
    crc = crc16 (image (s.tables.pendingEntries name)) →
    (2 < number.toNat → exec .applyTable s = .next (s.answered rest 0x42#8 .refusedRange []))
      ∧ (number.toNat ≤ 2 → number = name.number → s.engine.state = .failsafe →
          exec .applyTable s = .next (s.answered rest 0x42#8 .refusedState []))
      ∧ (number.toNat ≤ 2 → number = name.number → s.engine.state ≠ .failsafe → c1 ++ c2 ≠ crc →
          exec .applyTable s =
            .next (s.answered rest 0x42#8 .crcMismatch [crc.extractLsb' 8 8, crc.extractLsb' 0 8]))
      ∧ (∀ i k, number.toNat ≤ 2 → number = name.number → s.engine.state ≠ .failsafe → c1 ++ c2 = crc →
          s.tables.pendingFault name = some (i, k) →
          exec .applyTable s =
            .next (s.answered rest 0x42#8 .invalidTable [BitVec.ofNat 8 i, faultKindCode k]))
      ∧ (∀ first : Option Nat, number.toNat ≤ 2 → number = name.number → s.engine.state ≠ .failsafe → c1 ++ c2 = crc →
          s.tables.pendingFault name = none →
          ((first = none ∧ (name = .meter → s.tables.meterPending.clamped = s.tables.meterPending))
            ∨ ∃ i, first = some i ∧ name = .meter
              ∧ s.tables.meterPending.clamped.fields[i]? ≠ s.tables.meterPending.fields[i]?
              ∧ ∀ j < i, s.tables.meterPending.clamped.fields[j]? = s.tables.meterPending.fields[j]?) →
          (s.engine.state = .metering →
            ∃ t : Tables,
              exec .applyTable s = .next (({ s with tables := t } : State).answered rest 0x42#8 .staged
                  (match first with
                    | some i => [1, BitVec.ofNat 8 i]
                    | none => [0, 0]))
                ∧ { t with
                    calRequest := s.tables.calRequest, meterRequest := s.tables.meterRequest
                    calendarRequest := s.tables.calendarRequest } = s.tables
                ∧ t.request name = true ∧ ∀ other, other ≠ name → t.request other = s.tables.request other)
          ∧ (s.engine.state = .config → name = .cal →
              exec .applyTable s =
                .next ((({ s with
                  tables := { s.tables with calActive := some s.tables.calPending, calRequest := false }
                  history := .all none } : State).raise .tableInstalled).answered rest 0x42#8 .ok []))
          ∧ (s.engine.state = .config → name = .calendar →
              exec .applyTable s =
                .next (((({ s with
                  tables := { s.tables with
                    calendarActive := some s.tables.calendarPending, calendarRequest := false } } : State).evaluate).raise
                      .tableInstalled).answered rest 0x42#8 .ok []))
          ∧ (s.engine.state = .config → name = .meter →
              ∃ t : State,
                exec .applyTable s = .next ((t.raise .tableInstalled).answered rest 0x42#8
                    (if first.isSome then .clamped else .ok)
                    (match first with
                      | some i => [BitVec.ofNat 8 i]
                      | none => []))
                  ∧ t.tables = { s.tables with
                      meterActive := some s.tables.meterPending.clamped, meterRequest := false }
                  ∧ s.MeterInstalledAtLanes t
                  ∧ ((s.tables.meterActive = none ∨ ∃ m, s.tables.meterActive = some m
                        ∧ m.q = s.tables.meterPending.clamped.q) → t.bank = s.bank ∧ t.credits = s.credits)
                  ∧ (∀ m, s.tables.meterActive = some m → m.q ≠ s.tables.meterPending.clamped.q →
                      s.bank.accounts.Normalised t.bank.accounts s.tables.meterPending.clamped.q s.calendar.band
                        ∧ t.bank.snapshot = s.bank.snapshot)
                  ∧ (t.monitor.latched.getLsbD 30 = true ↔ s.monitor.latched.getLsbD 30 = true
                    ∨ ∃ m, s.tables.meterActive = some m ∧ m.q ≠ s.tables.meterPending.clamped.q
                      ∧ s.bank.accounts.Wraps s.tables.meterPending.clamped.q s.calendar.band ⟨0, 0⟩ (.all ⟨0, 0⟩))
                  ∧ (t.calendar.band, t.calendar.source) = t.bandNow
                  ∧ t.engine = s.engine ∧ t.demand = s.demand
                  ∧ (t.released, t.history, t.completed, t.requests, t.timeNotices)
                      = (s.released, s.history, s.completed, s.requests, s.timeNotices)
                  ∧ (t.capture, t.freeChoices, t.pending) = (s.capture, s.freeChoices, s.pending)
                  ∧ { t.link with urgent := s.link.urgent } = s.link))
      ∧ [FaultKind.badValue, .outOfOrder, .emptyNotTrailing].map faultKindCode = [0, 1, 2]

/-- R134 and section 8.2: which pending copies have a structural fault, at which entry the first one stands, and of what kind it
is. Which kind comes first where one switch point has several is the model's choice (log 23). -/
def Obligations.StructureFaultsOfThePendingCopies : Prop :=
  (∀ (t : Tables) (i : Nat) (k : FaultKind), t.pendingFault .cal = some (i, k) ↔
      k = .badValue ∧ ∃ x, i = phaseNumber x ∧ 1 < (t.calPending.get x).polarity
        ∧ ∀ y, phaseNumber y < i → (t.calPending.get y).polarity ≤ 1)
    ∧ (∀ t : Tables, let m := t.meterPending
        t.pendingFault .meter = none ↔ 1 ≤ m.lanes ∧ m.lanes ≤ 7 ∧ m.netMode ≤ 2 ∧ m.subst ≤ 2 ∧ m.failsafeBand ≤ 8
          ∧ m.unsetBand ≤ 7 ∧ m.demandMode ≤ 3 ∧ m.reports ≤ 1)
    ∧ (∀ (t : Tables) (i : Nat) (k : FaultKind), t.pendingFault .meter = some (i, k) ↔
        k = .badValue ∧ t.meterPending.BadField i ∧ ∀ j < i, ¬ t.meterPending.BadField j)
    ∧ (∀ (t : Tables) (i : Nat) (k : FaultKind), t.calendarPending.points.length = 96 → t.calendarPending.week.length = 7 →
        (t.pendingFault .calendar = some (i, k) ↔
          t.calendarPending.FaultAt i k ∧ ∀ j < i, ∀ kind, ¬ t.calendarPending.FaultAt j kind))
    ∧ (∀ t : Tables, let c := t.calendarPending
        c.week.length = 7 →
        (t.pendingFault .calendar = none ↔
          (∀ p ∈ c.points, p.minute = 65535 ∨ (p.minute < 1440 ∧ p.band ≤ 7))
            ∧ (∀ i j p q, i < j → i / 12 = j / 12 → c.points[i]? = some p → c.points[j]? = some q → q.minute ≠ 65535 →
                p.minute ≠ 65535 ∧ p.minute < q.minute)
            ∧ (∀ d ∈ c.week, d ≤ 7) ∧ c.offset ≤ 6))

/-- R135, R118 and section 8.2: the clamped image of a METER copy without a structural fault is installed, an installed one is
its own image, each clamped field takes the lowest or the highest value of its range from below and above it, and the DI of an
ALIGNED table is the largest divisor of 1440 that is not above the clamped one. -/
def Obligations.ClampedImageIsInstalled : Prop :=
  ∀ (t : Tables) (m : Meter), m = t.meterPending →
    (t.pendingFault .meter = none → m.clamped.Installed)
      ∧ (m.Installed → m.clamped = m)
      ∧ (m.demandMode = 0 → m.clamped.di ≤ max 1 (min 60 m.di) ∧ 1440 % m.clamped.di = 0
          ∧ ∀ d, d ≤ max 1 (min 60 m.di) → 1440 % d = 0 → d ≤ m.clamped.di)
      ∧ (m.demandMode ≠ 0 → m.clamped.di = max 1 (min 60 m.di))
      ∧ (let c := m.clamped
        let clamps := fun lowest highest x y : Nat =>
          (x < lowest → y = lowest) ∧ (highest < x → y = highest) ∧ (lowest ≤ x → x ≤ highest → y = x)
        clamps 80 3600000 m.nw c.nw ∧ clamps (2 ^ 16) (2 ^ 48) m.q c.q ∧ clamps 0 (2 ^ 32) m.creep c.creep
          ∧ clamps 0 (2 ^ 40) m.expTrip c.expTrip ∧ clamps 0 c.expTrip m.expWarn c.expWarn
          ∧ clamps 1 16 m.tripCount c.tripCount ∧ clamps 64 100 m.cycleLen c.cycleLen
          ∧ clamps 0 40000 m.substMax c.substMax ∧ clamps 1 255 m.qAssert c.qAssert
          ∧ clamps 0 (c.qAssert - 1) m.qClear c.qClear ∧ (m.stuckLimit = 0 → c.stuckLimit = 0)
          ∧ (m.stuckLimit ≠ 0 → clamps 16 4000 m.stuckLimit c.stuckLimit) ∧ clamps 0 524287 m.lowv c.lowv
          ∧ clamps 0 255 m.watchdog c.watchdog)
      ∧ (m.clamped.lanes, m.clamped.netMode, m.clamped.subst, m.clamped.failsafeBand, m.clamped.unsetBand,
          m.clamped.demandMode, m.clamped.reports)
        = (m.lanes, m.netMode, m.subst, m.failsafeBand, m.unsetBand, m.demandMode, m.reports)

/-! ### Flags and watchdog -/

/-- R142, R143, R144: CLEAR FLAGS clears the named flags whose condition is not true and answers what stays latched; SET MASK
replaces the mask; both form the summary again, and both refuse a set that names no flag. -/
def Obligations.ClearFlagsAndSetMask : Prop :=
  ∀ (s : State) (rest : List (List Byte)) (b0 b1 b2 b3 b4 b5 : Byte) (named : FlagSet),
    named = b5 ++ b4 ++ b3 ++ b2 ++ b1 ++ b0 →
    (s.Executes 0x49#8 [b0, b1, b2, b3, b4, b5] rest →
        ((∃ k, 41 ≤ k ∧ named.getLsbD k = true) → exec .clearFlags s = .next (s.answered rest 0x49#8 .refusedRange []))
        ∧ ((∀ k, 41 ≤ k → named.getLsbD k = false) →
            ∃ (latched : FlagSet) (alert : Bool) (data : List Byte),
              exec .clearFlags s =
                  .next (({ s with monitor := { s.monitor with latched := latched, alert := alert } } : State).answered
                    rest 0x49#8 .ok data)
                ∧ (∀ k, latched.getLsbD k =
                    (s.monitor.latched.getLsbD k && !(named.getLsbD k && !s.monitor.conditions.getLsbD k)))
                ∧ (alert = true ↔ ∃ k, latched.getLsbD k = true ∧ s.monitor.mask.getLsbD k = false)
                ∧ data.length = 6
                ∧ ∀ k < 48, (data.getD (k / 8) 0).getLsbD (k % 8) = (named.getLsbD k && latched.getLsbD k)))
      ∧ (s.Executes 0x4A#8 [b0, b1, b2, b3, b4, b5] rest →
        ((∃ k, 41 ≤ k ∧ named.getLsbD k = true) → exec .setMask s = .next (s.answered rest 0x4A#8 .refusedRange []))
        ∧ ((∀ k, 41 ≤ k → named.getLsbD k = false) →
            ∃ alert : Bool,
              exec .setMask s =
                  .next (({ s with monitor := { s.monitor with mask := named, alert := alert } } : State).answered
                    rest 0x4A#8 .ok [])
                ∧ (alert = true ↔ ∃ k, s.monitor.latched.getLsbD k = true ∧ named.getLsbD k = false)))

/-- R56, R140, R151, R164, R176: the watchdog's expiry in METERING enters FAILSAFE: the watchdog stops, FAILSAFE is raised,
outstanding requests are cancelled, the capture unit enters IDLE with an empty queue, the pause ends, and the band in force is
evaluated. An expiry that is not due does nothing. -/
def Obligations.WatchdogExpiryEntersFailsafe : Prop :=
  ∀ s u v : State, s.Ready → s.MonitorLaw →
    u = (({ s with
      monitor := { s.monitor with watchdogRunning := false, watchdogCount := 0, expired := false }
      engine := { s.engine with state := .failsafe } } : State).report .failsafe true) →
    v = { u with
      tables := { s.tables with calRequest := false, meterRequest := false, calendarRequest := false }
      capture := { s.capture with state := .idle, queue := [] }
      link := { u.link with paused := false } } →
    ((s.monitor.watchdogRunning = false ∨ s.monitor.expired = false) → exec .watchdogExpiry s = .next s)
      ∧ (s.monitor.watchdogRunning = true → s.monitor.expired = true → s.engine.state = .metering →
          exec .watchdogExpiry s =
            .next (if s.tables.anyRequest then (v.raise .applyCancelled).evaluate else v.evaluate))

/-! ### Meter link -/

/-- R154, R155, R156, R166, R167, R149: what a frame on the downlink does. An expiry that is due is taken before a command frame
restarts the watchdog (log 5). That a frame acts by the kind it carries in each of the three rows, and arrives as one run of
characters, is the model's choice (log 8, log 26). -/
def Obligations.DownlinkFramesActByTheirKind : Prop :=
  ∀ (s : State) (f : LineFrame) (kind len : Byte) (payload : List Byte) (crc : BitVec 16), s.Ready →
    crc = crc16 (kind :: len :: payload) →
    let good := f.stopBits = true ∧ f.chars = kind :: len :: payload ++ [crc.extractLsb' 8 8, crc.extractLsb' 0 8]
      ∧ len.toNat = payload.length ∧ payload.length ≤ 120
    let rows := [Instr.command f, .pause f, .resumeFlow f]
    let accepts := fun u : State => exec (.command f) s =
      .next { u with
        link := { u.link with commands := s.link.commands ++ [payload] }
        monitor := if u.monitor.watchdogRunning then { u.monitor with watchdogCount := 0, expired := false } else u.monitor }
    (s.link.downlink = .idle → good → kind = 1 → payload ≠ [] → s.link.commands.length < 4 →
        (s.expiryDue = false → accepts s)
          ∧ (s.expiryDue = true → ∃ u, exec .watchdogExpiry s = .next u ∧ accepts u))
      ∧ (s.link.downlink = .idle → good → kind = 1 → payload ≠ [] → 4 ≤ s.link.commands.length →
          exec (.command f) s = .next (s.raise .commandOverflow))
      ∧ (s.link.downlink = .idle → good → kind = 2 → payload = [] →
          exec (.pause f) s = .next { s with link := { s.link with paused := true } })
      ∧ (s.link.downlink = .idle → good → kind = 3 → payload = [] →
          exec (.resumeFlow f) s = .next { s with link := { s.link with paused := false } })
      ∧ (s.link.downlink = .idle →
          (f.stopBits = false ∨ f.chars.length < 4 ∨ 124 < f.chars.length
            ∨ f.chars.length ≠ (f.chars.getD 1 0).toNat + 4
            ∨ crc16 (f.chars.take (f.chars.length - 2)) ≠
              f.chars.getD (f.chars.length - 2) 0 ++ f.chars.getD (f.chars.length - 1) 0
            ∨ (good ∧ (kind ∉ [1#8, 2#8, 3#8] ∨ (kind = 1 ∧ payload = []) ∨ (kind ≠ 1 ∧ payload ≠ [])))) →
          ∀ i ∈ rows, exec i s = .next (s.raise .downlinkError))
      ∧ (s.link.downlink = .waitingForIdle →
          ∀ i ∈ .downlinkLineIdle :: rows, exec i s = .next { s with link := { s.link with downlink := .idle } })
      ∧ (s.link.downlink = .idle → exec .downlinkLineIdle s = .next s)

/-- R146, R156, R159 to R162, R170: a choice of the scheduler: the waiting notice first; else the first eligible source of the
rotation order, which moves to its end; else no frame, and the uplink is idle. That the line is never shown in the gap after a
frame is the model's choice (log 9). The bytes of the frame, of a notice, of a capture record and of a summary are written out;
that the reversal byte of a summary is a mark is the model's reading (log 19). -/
def Obligations.SchedulerServesTheFirstEligibleSource : Prop :=
  ∀ (s : State) (x : Source) (before later : List Source), s.Ready →
    let link := s.link
    let eligible : Source → Prop
      | .response => link.responseInProgress ≠ none ∨ link.responses ≠ []
      | .report => link.paused = false ∧ (link.reportInProgress ≠ none ∨ link.reports ≠ [])
      | .capture => link.paused = false ∧ s.capture.queue ≠ []
    let begins := fun (l : Link) (u : Capture) kind more payload =>
      exec .schedulerChoice s =
        .next { s with
          capture := u
          link := { l with uplink := .sending ⟨kind, more, link.paused, s.engine.state, s.monitor.alert, payload⟩ } }
    let chosen := link.urgent = none ∧ link.rotation = before ++ x :: later ∧ eligible x ∧ ∀ y ∈ before, ¬ eligible y
    let turned := { link with rotation := before ++ later ++ [x] }
    (∀ n, link.urgent = some n → begins { link with urgent := none } s.capture .notice false n.bytes)
      ∧ (chosen → x = .response → ∀ (r : Response) (waiting : List Response),
          ((link.responseInProgress = some r ∧ waiting = link.responses)
            ∨ (link.responseInProgress = none ∧ link.responses = r :: waiting)) →
          (r.data.length ≤ 118 →
            begins { turned with responses := waiting, responseInProgress := none } s.capture .response false
              (r.code :: statusCode r.status :: r.data))
          ∧ (118 < r.data.length →
            begins { turned with responses := waiting, responseInProgress := some { r with data := r.data.drop 118 } }
              s.capture .response true (r.code :: statusCode r.status :: r.data.take 118)))
      ∧ (chosen → x = .report → ∀ r,
          (∀ waiting, link.reportInProgress = none → link.reports = r :: waiting →
            begins { turned with reports := waiting, reportInProgress := some r } s.capture .report true
              (beBytes 4 r.sequence ++ [0] ++ r.bytes.take 115))
          ∧ (link.reportInProgress = some r →
            begins { turned with reportInProgress := none } s.capture .report false
              (beBytes 4 r.sequence ++ [1] ++ r.bytes.drop 115)))
      ∧ (chosen → x = .capture → ∀ r waiting, s.capture.queue = r :: waiting →
          begins turned { s.capture with queue := waiting } .capture false r.bytes)
      ∧ (link.urgent = none → (∀ y ∈ link.rotation, ¬ eligible y) →
          exec .schedulerChoice s = .next { s with link := { link with uplink := .idle } })
      ∧ (∀ frame : UpFrame,
          let body := frame.bytes.take (frame.payload.length + 2)
          let crc := crc16 body
          frame.bytes = body ++ [crc.extractLsb' 8 8, crc.extractLsb' 0 8]
            ∧ body.drop 2 = frame.payload ∧ body.getD 1 0 = BitVec.ofNat 8 frame.payload.length
            ∧ (body.getD 0 0).extractLsb' 0 3 =
                (match frame.kind with
                  | .response => 4#3
                  | .report => 5#3
                  | .notice => 6#3
                  | .capture => 7#3)
            ∧ (body.getD 0 0).getLsbD 3 = frame.more ∧ (body.getD 0 0).getLsbD 4 = frame.paused
            ∧ (body.getD 0 0).extractLsb' 5 2 = (engineCode frame.engine).extractLsb' 0 2
            ∧ (body.getD 0 0).getLsbD 7 = frame.alert)
      ∧ (∀ n : Notice, n.bytes =
          (List.range 6).map (fun i => n.flags.extractLsb' (8 * i) 8)
            ++ [BitVec.ofNat 8 n.raiseCount, engineCode n.engine] ++ beBytes 2 n.day ++ beBytes 2 n.minute
            ++ [markByte n.clockSet])
      ∧ (∀ c : CaptureRecord,
          let channels := [c.voltage.a, c.current.a, c.voltage.b, c.current.b, c.voltage.c, c.current.c]
          ∃ absent : Byte, (∀ k < 6, absent.getLsbD k = (channels.getD k none).isNone)
            ∧ absent.getLsbD 6 = false ∧ absent.getLsbD 7 = false
            ∧ c.bytes = beBytes 2 c.index.toNat ++ beBytes 2 c.status.toNat ++ [absent]
              ++ (channels.map (fun v => beSigned 3 (v.getD 0))).flatten)
      ∧ (∀ w : Summary,
          let phases := [Phase.a, .b, .c]
          w.bytes.length = 163 ∧ w.bytes =
            beBytes 4 w.sequence ++ [causeCode w.cause, BitVec.ofNat 8 w.band.val] ++ beBytes 2 w.day ++ beBytes 2 w.minute
              ++ beBytes 3 w.count ++ [netModeCode w.mode] ++ beBytes 7 w.q ++ [markByte w.intervalEnd]
              ++ beBytes 8 w.aImp ++ beBytes 8 w.aExp ++ beSigned 8 w.discard
              ++ (phases.map (fun x => let p := w.sums.get x
                  beSigned 8 p.energy ++ beBytes 8 p.grossImp ++ beBytes 8 p.grossExp ++ beSigned 8 p.squares
                    ++ beBytes 3 p.sets)).flatten
              ++ phases.map (fun x => directionCode (w.direction.get x))
              ++ phases.map (fun x => markByte (w.reversal.get x))
              ++ phases.map (fun x => lowCode (w.low.get x))
              ++ [exportCode w.exportState, BitVec.ofNat 8 w.consecutive, checkCode w.check])
      ∧ [Status.ok, .clamped, .staged, .refusedState, .refusedRange, .crcMismatch, .invalidTable, .notReady, .listFull,
          .notFound, .badCommand].map statusCode = [0, 1, 2, 3, 4, 5, 6, 7, 8, 9, 10]
      ∧ [some CloseCause.full, some .switch, some .time, some .interval, some .stop, none].map causeCode = [0, 1, 2, 3, 4, 5]
      ∧ ([NetMode.gross, .phase, .sum].map netModeCode, [Direction.idle, .imports, .exports].map directionCode,
          [LowJudgement.low, .notLow, .notEnabled].map lowCode, [ExportState.normal, .warn, .trip].map exportCode,
          [ExportCheck.made, .skipped, .disabled].map checkCode)
        = ([0, 1, 2], [0, 1, 2], [0, 1, 2], [0, 1, 2], [0, 1, 2])

/-- R157, R158, R169: a command whose parameter length is wrong, or whose code is not known, is removed and answered
BAD_COMMAND; and a command row whose command is not at the head, or that finds no response slot, does nothing (log 2). That the wrong length is answered in the row of the code is the model's reading (log 25). -/
def Obligations.CommandsWaitAndAreCheckedForLength : Prop :=
  ∀ (s : State) (c : Instr) (code : Byte) (n : Nat),
    (c.fixedCommand = some (code, n) →
        (∀ p rest, s.Executes code p rest → p.length ≠ n → exec c s = .next (s.answered rest code .badCommand []))
        ∧ (s.Ready → (∀ p rest, s.link.commands ≠ (code :: p) :: rest) → exec c s = .next s))
      ∧ (s.Ready → (4 ≤ s.link.responses.length ∨ s.link.commands = []) →
          (c.fixedCommand ≠ none ∨ c = .writeTable ∨ c = .badCommand) → exec c s = .next s)
      ∧ (∀ p rest, s.Executes code p rest → (∀ d m, Instr.fixedCommand d ≠ some (code, m)) → code ≠ 0x41#8 →
          exec .badCommand s = .next (s.answered rest code .badCommand []))
      ∧ (∀ p rest, s.Executes code p rest → ((∃ d m, Instr.fixedCommand d = some (code, m)) ∨ code = 0x41#8) →
          exec .badCommand s = .next s)
      ∧ (∀ p rest, s.Executes code p rest → code ≠ 0x41#8 → exec .writeTable s = .next s)

/-- R19, R80, R81, R145, R175, R182: what the reads of the lanes, the window, the counters, the flags, the capture unit and the
lane test give, and how a number and a signed number travel (R170). Where the manual gives no value, the watchdog limit without a
METER table, the field holds some value and every other field is as stated (log 22).
The numbers of the stuck states and of the running watchdog, and the marks that carry a condition and the waiting notice, are the
model's reading (log 19), and so is the mark byte ahead of the trigger index (log 20). -/
def Obligations.StatusReadsGiveTheValuesThatStand : Prop :=
  ∀ (s : State) (rest : List (List Byte)),
    (s.Executes 0x01#8 [] rest →
        exec .readLanes s = .next (s.answered rest 0x01#8 .ok (([Phase.a, .b, .c].map (fun x =>
          let l := s.lanes.get x
          let stuck := fun d : Detector => (if d.stuck then 0 else 1) :: beBytes 2 d.equalRun
          [laneStateCode l.state, BitVec.ofNat 8 l.queue.length, BitVec.ofNat 8 l.presentRun,
            BitVec.ofNat 8 l.absentRun, BitVec.ofNat 8 l.sequenceRun]
          ++ beBytes 2 l.periodPosition ++ beBytes 2 l.periodErrors ++ beBytes 2 l.lastPeriodErrors
          ++ stuck l.voltage ++ stuck l.current
          ++ ([l.counters.accepted, l.counters.crcErrors, l.counters.sequenceErrors, l.counters.late,
            l.counters.resyncs, l.counters.restarts, l.counters.lost, l.counters.overrange].map (beBytes 4)).flatten)).flatten)))
      ∧ (s.Executes 0x14#8 [] rest → ∀ w : Window,
          (s.engine.window = none → exec .readWindow s = .next (s.answered rest 0x14#8 .ok
            (engineCode s.engine.state :: List.replicate 115 0 ++ s.engine.summary.bytes)))
          ∧ (s.engine.window = some w → w.opening = none →
            exec .readWindow s = .next (s.answered rest 0x14#8 .ok
              ([engineCode s.engine.state, 1] ++ beBytes 3 w.count ++ [BitVec.ofNat 8 w.band.val, 0] ++ List.replicate 4 0
                ++ (w.sums.toList.map PhaseSums.bytes).flatten ++ s.engine.summary.bytes)))
          ∧ (∀ o, s.engine.window = some w → w.opening = some o →
            exec .readWindow s = .next (s.answered rest 0x14#8 .ok
              ([engineCode s.engine.state, 1] ++ beBytes 3 w.count ++ [BitVec.ofNat 8 w.band.val, 1] ++ beBytes 2 o.day
                ++ beBytes 2 o.minute ++ (w.sums.toList.map PhaseSums.bytes).flatten ++ s.engine.summary.bytes))))
      ∧ (s.Executes 0x15#8 [] rest →
        exec .readCounters s = .next (s.answered rest 0x15#8 .ok
          (([Phase.a, .b, .c].map (fun x =>
              lastDirectionCode (s.engine.lastDirection.get x) :: beBytes 4 (s.engine.reversals.get x))).flatten
            ++ beBytes 4 s.engine.unmeteredCount ++ [markByte s.engine.unmetered, exportCode s.engine.exportState,
              BitVec.ofNat 8 s.engine.consecutive] ++ beBytes 4 s.engine.sequence
            ++ [Phase.a, .b, .c].map (fun x => markByte (s.engine.lowVoltage.get x))
            ++ ([Phase.a, .b, .c].map (fun x => let m := s.aligner.cycles.get x
                [BitVec.ofNat 8 m.codes.length] ++ beBytes 2 m.runCount ++ beBytes 4 m.estimated)).flatten)))
      ∧ (s.Executes 0x48#8 [] rest →
        let gives := fun limit => exec .readFlags s = .next (s.answered rest 0x48#8 .ok
          (([s.monitor.latched, s.monitor.conditions, s.monitor.mask].map (fun f =>
              (List.range 6).map (fun i => f.extractLsb' (8 * i) 8))).flatten
            ++ [markByte s.monitor.alert, if s.monitor.watchdogRunning then 0 else 1] ++ beBytes 3 s.monitor.watchdogCount
            ++ beBytes 3 limit ++ [markByte s.link.urgent.isSome]))
        (∀ m, s.tables.meterActive = some m → gives (m.watchdog * 4000))
          ∧ (s.tables.meterActive = none → ∃ limit, limit < 16777216 ∧ gives limit))
      ∧ (s.Executes 0x53#8 [] rest → let u := s.capture
        exec .readCaptureStatus s = .next (s.answered rest 0x53#8 .ok
          ([captureStateCode u.state, captureModeCode u.mode] ++ beBytes 2 u.base ++ beBytes 2 u.current
            ++ beBytes 2 u.decimation ++ [BitVec.ofNat 8 u.decimationCount, triggerSourceCode u.source]
            ++ (match u.sourceIndex with
              | none => [0, 0, 0]
              | some i => 1 :: beBytes 2 i.toNat)
            ++ [BitVec.ofNat 8 u.queue.length] ++ beBytes 4 u.overrun)))
      ∧ (∀ lane : Byte, s.Executes 0x5A#8 [lane] rest →
        (2 < lane.toNat → exec .readLinkTest s = .next (s.answered rest 0x5A#8 .refusedRange []))
        ∧ ∀ x, lane.toNat = phaseNumber x → let c := s.checkers.get x
          exec .readLinkTest s = .next (s.answered rest 0x5A#8 .ok
            ([checkerStateCode c.state, patternCode c.pattern, markByte c.invert, markByte c.syncMask,
                timebaseCode c.timebase, c.limitCode]
              ++ beBytes 6 c.fixedWord.toNat ++ beBytes 3 ((c.limitCode.toNat / 8) * 4 ^ (c.limitCode.toNat % 8))
              ++ [BitVec.ofNat 8 c.goodRun, BitVec.ofNat 8 c.badRun] ++ beBytes 5 c.running ++ beBytes 5 c.lastResult
              ++ [markByte c.resultValid] ++ beBytes 4 c.timebaseCount ++ [markByte c.failMark] ++ beBytes 2 c.syncLosses)))
      ∧ (∀ n v : Nat, (beBytes n v).length = n ∧ ∀ k < n, (beBytes n v).getD k 0 = BitVec.ofNat 8 (v / 256 ^ (n - 1 - k)))
      ∧ (∀ (n : Nat) (v : Int), beSigned n v = beBytes n (v % 256 ^ n).toNat)
      ∧ (∀ p : PhaseSums, p.bytes =
          beSigned 8 p.energy ++ beBytes 8 p.grossImp ++ beBytes 8 p.grossExp ++ beSigned 8 p.squares ++ beBytes 3 p.sets)
      ∧ ([EngineState.config, .metering, .failsafe].map engineCode, [none, some Flow.imports, some .exports].map
            lastDirectionCode, [ExportState.normal, .warn, .trip].map exportCode, [false, true].map markByte)
          = ([0, 1, 2], [0, 1, 2], [0, 1, 2], [0, 1])
      ∧ ([LaneState.off, .seek, .up, .suspect, .lost, .test].map laneStateCode,
          [CaptureState.idle, .armed, .running].map captureStateCode,
          [CaptureMode.once, .rearm, .stream].map captureModeCode,
          [TriggerSource.none, .entry 0, .entry 1, .entry 2, .entry 3, .command].map triggerSourceCode)
          = ([0, 1, 2, 3, 4, 5], [0, 1, 2], [0, 1, 2], [0, 1, 2, 3, 4, 5])
      ∧ ([CheckerState.idle, .seeding, .hunting, .synced].map checkerStateCode, [Pattern.prbs15, .fixed].map patternCode,
          [Timebase.continuous, .pow16, .pow20, .pow24].map timebaseCode)
          = ([0, 1, 2, 3], [0, 1], [0, 1, 2, 3])

/-- R93, R95, R103, R108, R127, R132: what the paged reads, READ CLOCK, READ SPECIAL DAYS and READ TABLE give. Where the manual
gives no value, the DI without a METER table (log 22) and the profile with its origin on an ordinary day without a CALENDAR table
(log 21), the field holds some value of its range and every other field is as stated. The number of the profile's origin and the
mark of an outstanding request (log 19) and the valid mark of a pending copy (log 32) are the model's reading. -/
def Obligations.PagedReadsGiveTheValuesThatStand : Prop :=
  ∀ (s : State) (rest : List (List Byte)) (page : Byte),
    let bands := fun (r : Vector Nat 8) (residue : Nat) =>
      (r.toList.map (beBytes 6)).flatten ++ beBytes 6 (r.toList.sum % 281474976710656) ++ beBytes 6 residue
    let flows := fun f : PerPhase Flows => ([f.a.imp, f.a.exp, f.b.imp, f.b.exp, f.c.imp, f.c.exp].map (beBytes 6)).flatten
    let pageOf := fun (acc : Accounts) (n : Nat) => beBytes 4 acc.updateCount ++
      (if n = 0 then bands acc.bandImp acc.residue.imp else if n = 1 then bands acc.bandExp acc.residue.exp
        else flows acc.gross ++ flows acc.grossResidue)
    let records := fun r : Vector DemandRecord 8 =>
      (r.toList.map (fun d => beBytes 4 d.value ++ beBytes 2 d.day ++ beBytes 2 d.minute)).flatten
    let days := s.calendar.specialDays
    (s.Executes 0x20#8 [page] rest →
        (2 < page.toNat → exec .readBank s = .next (s.answered rest 0x20#8 .refusedRange []))
        ∧ (page.toNat ≤ 2 →
          exec .readBank s = .next (s.answered rest 0x20#8 .ok (pageOf s.bank.accounts page.toNat))))
      ∧ (s.Executes 0x22#8 [page] rest → let r := s.bank.snapshot
        (3 < page.toNat → exec .readSnapshot s = .next (s.answered rest 0x22#8 .refusedRange []))
        ∧ (page.toNat = 0 → exec .readSnapshot s = .next (s.answered rest 0x22#8 .ok
            ([markByte r.taken] ++ beBytes 4 r.accounts.updateCount ++ beBytes 7 r.q ++ beBytes 2 r.day ++ beBytes 2 r.minute
              ++ [markByte r.clockSet, BitVec.ofNat 8 r.band.val, engineCode r.engine] ++ beBytes 4 r.sequence)))
        ∧ (1 ≤ page.toNat → page.toNat ≤ 3 →
          exec .readSnapshot s = .next (s.answered rest 0x22#8 .ok (pageOf r.accounts (page.toNat - 1)))))
      ∧ (s.Executes 0x38#8 [page] rest → let d := s.demand
        (4 < page.toNat → exec .readDemand s = .next (s.answered rest 0x38#8 .refusedRange []))
        ∧ (page.toNat = 0 →
          let gives := fun mode di : Nat => exec .readDemand s = .next (s.answered rest 0x38#8 .ok
            (beBytes 2 d.resetCount ++ [BitVec.ofNat 8 mode, BitVec.ofNat 8 di, intervalCode d.state,
              markByte d.partialMark, markByte d.restartPending] ++ beBytes 3 d.base ++ beBytes 3 d.current
              ++ beBytes 8 d.sums.imp ++ beBytes 8 d.sums.exp ++ beBytes 2 d.stampDay ++ beBytes 2 d.stampMinute))
          (∀ m, s.tables.meterActive = some m → m.demandMode ≤ 3 → gives m.demandMode m.di)
            ∧ (s.tables.meterActive = none → ∃ di, di < 256 ∧ gives 3 di))
        ∧ ∀ v, (page.toNat, v) ∈ [(1, d.records.imp), (2, d.records.exp), (3, d.previous.imp), (4, d.previous.exp)] →
            exec .readDemand s = .next (s.answered rest 0x38#8 .ok (beBytes 2 d.resetCount ++ records v)))
      ∧ (s.Executes 0x31#8 [] rest →
        let gives := fun (offset profile : Nat) (origin : Byte) => exec .readClock s = .next (s.answered rest 0x31#8 .ok
          ([markByte s.calendar.clockSet] ++ beBytes 2 s.calendar.day ++ beBytes 2 s.calendar.minute
            ++ beBytes 3 s.calendar.strobeCount
            ++ [BitVec.ofNat 8 ((s.calendar.day + offset) % 7), BitVec.ofNat 8 profile, origin,
              BitVec.ofNat 8 s.calendar.band.val, bandSourceCode s.calendar.source, BitVec.ofNat 8 days.length]))
        let special := fun profile => ∃ before e later, days = before ++ e :: later ∧ e.day = s.calendar.day
          ∧ e.profile = profile ∧ ∀ d ∈ before, d.day ≠ s.calendar.day
        let ordinary := ∀ e ∈ days, e.day ≠ s.calendar.day
        (∀ t profile, s.tables.calendarActive = some t →
            (special profile → gives t.offset profile 0)
            ∧ (ordinary → t.week[(s.calendar.day + t.offset) % 7]? = some profile → gives t.offset profile 1))
          ∧ (s.tables.calendarActive = none →
            (∀ profile, special profile → gives 0 profile 0)
            ∧ (ordinary → ∃ (profile : Nat) (origin : Byte), profile ≤ 7 ∧ origin.toNat ≤ 1 ∧ gives 0 profile origin)))
      ∧ (s.Executes 0x34#8 [] rest →
        exec .readSpecialDays s = .next (s.answered rest 0x34#8 .ok
          (BitVec.ofNat 8 days.length
            :: (days.map (fun e => beBytes 2 e.day ++ [BitVec.ofNat 8 e.profile])).flatten)))
      ∧ (∀ (name : TableName) (last : Nat) (number copy first count : Byte), s.TableLaw →
          (name, last) ∈ [(TableName.cal, 2), (.meter, 20), (.calendar, 103), (.trigger, 3)] →
          s.Executes 0x40#8 [number, copy, first, count] rest →
          let from' := name.offset first.toNat
          let length := name.offset (first.toNat + count.toNat) - from'
          let refused := 1 < copy.toNat ∨ count = 0 ∨ last < first.toNat + count.toNat - 1 ∨ 112 < length
          let gives := fun valid crc entries =>
            exec .readTable s = .next (s.answered rest 0x40#8 .ok
              ([markByte (s.tables.request name), valid] ++ beBytes 2 crc ++ entries))
          ((3 < number.toNat ∨ (number = name.number ∧ refused)) →
              exec .readTable s = .next (s.answered rest 0x40#8 .refusedRange []))
            ∧ (number = name.number → ¬ refused → copy = 0 →
              let i := image (s.tables.pendingEntries name)
              gives 1 (crc16 i).toNat ((i.drop from').take length))
            ∧ (∀ entries, number = name.number → ¬ refused → copy = 1 → s.tables.activeEntries name = some entries →
              gives 1 (crc16 (image entries)).toNat (((image entries).drop from').take length))
            ∧ (number = name.number → ¬ refused → copy = 1 → s.tables.activeEntries name = none →
              gives 0 0 (List.replicate length 0)))
      ∧ ([BandSource.failsafe, .unset, .profile, .noTable].map bandSourceCode,
          [IntervalState.idle, .running, .ending, .done].map intervalCode, [EngineState.config, .metering, .failsafe].map engineCode)
        = ([0, 1, 2, 3], [0, 1, 2, 3], [0, 1, 2])

/-! ### Capture and lane test -/

/-- R171, R172, R173, R175: CAPTURE ARM, CAPTURE TRIGGER and CAPTURE STOP with their refusals. -/
def Obligations.CaptureCommandsMoveTheUnit : Prop :=
  ∀ (s : State) (rest : List (List Byte)) (mode : Byte) (c1 c2 d1 d2 : Byte) (count decimation : Nat),
    count = (c1 ++ c2).toNat → decimation = (d1 ++ d2).toNat →
    (s.Executes 0x50#8 [mode, c1, c2, d1, d2] rest →
        ((s.engine.state = .failsafe ∨ s.capture.state ≠ .idle) →
          exec .captureArm s = .next (s.answered rest 0x50#8 .refusedState []))
        ∧ (s.engine.state ≠ .failsafe → s.capture.state = .idle →
            (2 < mode.toNat ∨ 4095 < count ∨ decimation = 0 ∨ 256 < decimation) →
            exec .captureArm s = .next (s.answered rest 0x50#8 .refusedRange []))
        ∧ (∀ m, s.engine.state ≠ .failsafe → s.capture.state = .idle → captureModeCode m = mode → count ≤ 4095 →
            1 ≤ decimation → decimation ≤ 256 →
            exec .captureArm s =
              .next (({ s with capture :=
                { s.capture with
                  state := .armed, mode := m, base := count + 1, current := count + 1, decimation := decimation
                  source := .none, sourceIndex := none } } : State).answered rest 0x50#8 .ok [])))
      ∧ (s.Executes 0x51#8 [] rest →
        (s.capture.state ≠ .armed → exec .captureTrigger s = .next (s.answered rest 0x51#8 .refusedState []))
        ∧ (s.capture.state = .armed →
            exec .captureTrigger s =
              .next (({ s with capture :=
                { s.capture with state := .running, source := .command, sourceIndex := none, decimationCount := 0 } } :
                  State).answered rest 0x51#8 .ok [])))
      ∧ (s.Executes 0x52#8 [] rest →
        (s.capture.state = .idle → exec .captureStop s = .next (s.answered rest 0x52#8 .refusedState []))
        ∧ (s.capture.state ≠ .idle →
            exec .captureStop s =
              .next (({ s with capture := { s.capture with state := .idle } } : State).answered rest 0x52#8 .ok [])))

/-- R12, R177, R182: LINK TEST START takes a lane of a device in CONFIG into TEST under the named settings, and LINK TEST STOP
brings it back; R178 to R181: a TEST frame on a lane in TEST is handled by the checker's state, with the failure that the running
count may give; R181: the end of a timebase latches its result and judges it. That LINK TEST START leaves the generator as it
stands and that the frame after a sync loss seeds (log 24), what a seed frame three or more strobes behind does, and that a
numbering one strobe ahead or behind is judged by R178 and the table of R179 (log 30), are the model's choices. -/
def Obligations.LaneTestBeginsEndsAndJudges : Prop :=
  ∀ (s : State) (rest : List (List Byte)) (x : Phase) (l : Lane) (c started : Checker) (memory : State), s.MonitorLaw →
    l = s.lanes.get x → c = s.checkers.get x →
    memory = (if l.state = .up ∨ l.state = .suspect then s.withEmptyMemory x else s) →
    (∀ (lane p i k t limit w0 w1 w2 w3 w4 w5 : Byte),
        s.Executes 0x58#8 [lane, p, i, k, t, limit, w0, w1, w2, w3, w4, w5] rest →
        (s.engine.state ≠ .config → exec .linkTestStart s = .next (s.answered rest 0x58#8 .refusedState []))
        ∧ (s.engine.state = .config →
            (2 < lane.toNat ∨ 1 < p.toNat ∨ 1 < i.toNat ∨ 1 < k.toNat ∨ 3 < t.toNat) →
            exec .linkTestStart s = .next (s.answered rest 0x58#8 .refusedRange []))
        ∧ (∀ (pattern : Pattern) (inverted mask : Bool) (timebase : Timebase), s.engine.state = .config →
            lane.toNat = phaseNumber x → patternCode pattern = p → markByte inverted = i → markByte mask = k →
            timebaseCode timebase = t →
            started = { c with
              state := .seeding, pattern := pattern, invert := inverted, syncMask := mask, timebase := timebase
              limitCode := limit, fixedWord := w0 ++ w1 ++ w2 ++ w3 ++ w4 ++ w5, expected := none, goodRun := 0
              badRun := 0, running := 0, lastResult := 0, resultValid := false, failMark := false
              timebaseCount := 0, timebaseBegun := false, syncLosses := 0 } →
            (l.state = .test → exec .linkTestStart s = .next (s.answered rest 0x58#8 .refusedState []))
            ∧ (l.state ≠ .test →
                exec .linkTestStart s =
                  .next ((((({ memory with checkers := s.checkers.set x started } : State).withLane x
                    { l with
                      state := .test, queue := [], presentRun := 0, absentRun := 0, sequenceRun := 0
                      down := l.down ++ [⟨.testEnter, x, if pattern = .fixed then 1 else 0,
                        if pattern = .fixed then w0 ++ w1 ++ w2 ++ w3 ++ w4 ++ w5 else 0⟩] }).report
                          (.laneLost x) false).report (.laneSuspect x) false).answered rest 0x58#8 .ok []))))
      ∧ (∀ lane : Byte, s.Executes 0x59#8 [lane] rest →
        (2 < lane.toNat → exec .linkTestStop s = .next (s.answered rest 0x59#8 .refusedRange []))
        ∧ (lane.toNat = phaseNumber x → l.state ≠ .test →
            exec .linkTestStop s = .next (s.answered rest 0x59#8 .refusedState []))
        ∧ (∀ n stopped, lane.toNat = phaseNumber x → l.state = .test → s.aligner.latest = some n →
            stopped = { s with checkers := s.checkers.set x { c with state := .idle } } →
            let down := l.down ++ [{ kind := .testExit, lane := x, index := n, data := 0 : DownFrame }]
            (s.enabled x = true →
              exec .linkTestStop s =
                .next ((stopped.withLane x
                  { l with
                    state := .seek, presentRun := 0, absentRun := 0, sequenceRun := 0, periodPosition := 0
                    periodErrors := 0, down := down
                    voltage := { l.voltage with previous := none, equalRun := 0 }
                    current := { l.current with previous := none, equalRun := 0 } }).answered rest 0x59#8 .ok []))
            ∧ (s.enabled x = false →
              exec .linkTestStop s =
                .next ((((stopped.withLane x
                  { l with
                    state := .off, down := down, voltage := detectorAtPowerOn, current := detectorAtPowerOn }).report
                      (.vStuck x) false).report (.iStuck x) false).answered rest 0x59#8 .ok []))))
      ∧ (∀ (f : LineFrame) (g : UpLaneFrame), s.Ready → parseLaneFrame f = some g → g.kind = 5 →
          g.lane = phaseNumber x + 1 → l.state = .test →
          ∃ d : Checker, c.Takes s.aligner.latest g.index g.data d
            ∧ let fails := d.timebase = .continuous ∧ d.failMark = false
                ∧ (d.limitCode.toNat / 8) * 4 ^ (d.limitCode.toNat % 8) < d.running
              (¬ fails → exec (.upDirectionFrame x f) s = .next { s with checkers := s.checkers.set x d })
                ∧ (fails → exec (.upDirectionFrame x f) s =
                    .next (({ s with checkers := s.checkers.set x { d with failMark := true } } : State).raise
                      (.linkTestFail x))))
      ∧ (∀ n latched, s.resetApplied = false →
        latched = { c with lastResult := c.running, resultValid := true, running := 0, timebaseCount := 0 } →
        let limit := (c.limitCode.toNat / 8) * 4 ^ (c.limitCode.toNat % 8)
        (c.timebase = .continuous → exec (.timebaseEnd x) s = .next s)
        ∧ ((c.timebase, n) ∈ [(Timebase.pow16, 65536), (.pow20, 1048576), (.pow24, 16777216)] →
          (c.timebaseCount < n → exec (.timebaseEnd x) s = .next s)
          ∧ (n ≤ c.timebaseCount → (c.running ≤ limit ∨ c.failMark = true) →
              exec (.timebaseEnd x) s = .next { s with checkers := s.checkers.set x latched })
          ∧ (n ≤ c.timebaseCount → limit < c.running → c.failMark = false →
              exec (.timebaseEnd x) s =
                .next (({ s with checkers := s.checkers.set x { latched with failMark := true } } : State).raise
                  (.linkTestFail x)))))
end

