-- ==== Sys2Proof/Laws/State.lean ====
section
/-!
SUPPORT. The field lemmas of the small updates: per-phase values, lanes, capture and checker records.
-/

namespace Sys2Proof.Machine

variable {α β γ : Type}

/-! ### Per-phase values -/

@[simp] theorem PerPhase.get_set_same (p : PerPhase α) (x : Phase) (v : α) : (p.set x v).get x = v := by
  cases x <;> rfl

theorem PerPhase.get_set (p : PerPhase α) (x y : Phase) (v : α) :
    (p.set x v).get y = if y = x then v else p.get y := by
  cases x <;> cases y <;> rfl

@[simp] theorem PerPhase.get_all (v : α) (x : Phase) : (PerPhase.all v).get x = v := by cases x <;> rfl

@[simp] theorem PerPhase.get_map (f : α → β) (p : PerPhase α) (x : Phase) : (p.map f).get x = f (p.get x) := by
  cases x <;> rfl

@[simp] theorem PerPhase.get_zip (f : α → β → γ) (p : PerPhase α) (q : PerPhase β) (x : Phase) :
    (PerPhase.zip f p q).get x = f (p.get x) (q.get x) := by
  cases x <;> rfl

theorem PerPhase.get_modify (p : PerPhase α) (x y : Phase) (f : α → α) :
    (p.modify x f).get y = if y = x then f (p.get y) else p.get y := by
  cases x <;> cases y <;> rfl

@[simp] theorem PerPhase.set_get (p : PerPhase α) (x : Phase) : p.set x (p.get x) = p := by cases x <;> rfl

@[simp] theorem PerPhase.get_a (p : PerPhase α) : p.get .a = p.a := rfl
@[simp] theorem PerPhase.get_b (p : PerPhase α) : p.get .b = p.b := rfl
@[simp] theorem PerPhase.get_c (p : PerPhase α) : p.get .c = p.c := rfl

/-- A property of all three phases. -/
theorem PerPhase.forall_get (p : PerPhase α) (P : α → Prop) : (∀ x, P (p.get x)) ↔ P p.a ∧ P p.b ∧ P p.c :=
  ⟨fun h => ⟨h .a, h .b, h .c⟩, fun h x => by cases x <;> simp [h]⟩

/-! ### Lanes -/

@[simp] theorem Lane.restartPeriod_frame (l : Lane) :
    l.restartPeriod.state = l.state ∧ l.restartPeriod.queue = l.queue ∧ l.restartPeriod.counters = l.counters
      ∧ l.restartPeriod.voltage = l.voltage ∧ l.restartPeriod.current = l.current ∧ l.restartPeriod.down = l.down
      ∧ l.restartPeriod.presentRun = l.presentRun ∧ l.restartPeriod.absentRun = l.absentRun
      ∧ l.restartPeriod.sequenceRun = l.sequenceRun ∧ l.restartPeriod.lastPeriodErrors = l.lastPeriodErrors
      ∧ l.restartPeriod.periodPosition = 0 ∧ l.restartPeriod.periodErrors = 0 := by
  simp [Lane.restartPeriod]

@[simp] theorem Lane.restartHistories_frame (l : Lane) :
    l.restartHistories.state = l.state ∧ l.restartHistories.queue = l.queue ∧ l.restartHistories.counters = l.counters
      ∧ l.restartHistories.down = l.down ∧ l.restartHistories.periodPosition = l.periodPosition
      ∧ l.restartHistories.voltage.stuck = l.voltage.stuck ∧ l.restartHistories.current.stuck = l.current.stuck := by
  simp [Lane.restartHistories, Detector.restart]

@[simp] theorem Lane.resetDetectors_frame (l : Lane) :
    l.resetDetectors.state = l.state ∧ l.resetDetectors.queue = l.queue ∧ l.resetDetectors.counters = l.counters
      ∧ l.resetDetectors.down = l.down ∧ l.resetDetectors.periodPosition = l.periodPosition
      ∧ l.resetDetectors.voltage.stuck = false ∧ l.resetDetectors.current.stuck = false := by
  simp [Lane.resetDetectors, detectorAtPowerOn]

@[simp] theorem Lane.clearRuns_frame (l : Lane) :
    l.clearRuns.state = l.state ∧ l.clearRuns.queue = l.queue ∧ l.clearRuns.counters = l.counters
      ∧ l.clearRuns.voltage = l.voltage ∧ l.clearRuns.current = l.current ∧ l.clearRuns.down = l.down
      ∧ l.clearRuns.periodPosition = l.periodPosition := by
  simp [Lane.clearRuns]

@[simp] theorem Lane.enterSeek_frame (l : Lane) :
    l.enterSeek.state = .seek ∧ l.enterSeek.queue = l.queue ∧ l.enterSeek.counters = l.counters
      ∧ l.enterSeek.voltage = l.voltage ∧ l.enterSeek.current = l.current ∧ l.enterSeek.down = l.down
      ∧ l.enterSeek.periodPosition = 0 := by
  simp [Lane.enterSeek]

@[simp] theorem Lane.send_frame (l : Lane) (f : DownFrame) :
    (l.send f).state = l.state ∧ (l.send f).queue = l.queue ∧ (l.send f).counters = l.counters
      ∧ (l.send f).voltage = l.voltage ∧ (l.send f).current = l.current
      ∧ (l.send f).periodPosition = l.periodPosition ∧ (l.send f).down = l.down ++ [f] := by
  simp [Lane.send]

@[simp] theorem Lane.sendTestExit_frame (l : Lane) (x : Phase) (n : StrobeIndex) :
    (l.sendTestExit x n).state = l.state ∧ (l.sendTestExit x n).queue = l.queue
      ∧ (l.sendTestExit x n).counters = l.counters ∧ (l.sendTestExit x n).voltage = l.voltage
      ∧ (l.sendTestExit x n).current = l.current ∧ (l.sendTestExit x n).periodPosition = l.periodPosition := by
  unfold Lane.sendTestExit; split <;> simp

end Sys2Proof.Machine
end

