-- ==== Sys2Proof/Laws/Frames.lean ====
section
/-!
SUPPORT. For each shared operation one lemma that says all that it leaves unchanged.
-/

namespace Sys2Proof.Machine

/-! ### Flags -/

/-- A raise touches the fault monitor and the urgent slot. -/
@[simp] theorem State.raise_frame (s : State) (f : Flag) :
    (s.raise f).resetApplied = s.resetApplied ∧ (s.raise f).lanes = s.lanes ∧ (s.raise f).aligner = s.aligner
     ∧ (s.raise f).released = s.released ∧ (s.raise f).history = s.history ∧ (s.raise f).completed = s.completed
     ∧ (s.raise f).engine = s.engine ∧ (s.raise f).requests = s.requests ∧ (s.raise f).bank = s.bank
     ∧ (s.raise f).calendar = s.calendar ∧ (s.raise f).demand = s.demand ∧ (s.raise f).credits = s.credits
     ∧ (s.raise f).timeNotices = s.timeNotices ∧ (s.raise f).tables = s.tables ∧ (s.raise f).capture = s.capture
     ∧ (s.raise f).checkers = s.checkers ∧ (s.raise f).freeChoices = s.freeChoices ∧ (s.raise f).pending = s.pending
     ∧ (s.raise f).link.downlink = s.link.downlink ∧ (s.raise f).link.commands = s.link.commands
     ∧ (s.raise f).link.responses = s.link.responses
     ∧ (s.raise f).link.responseInProgress = s.link.responseInProgress ∧ (s.raise f).link.reports = s.link.reports
     ∧ (s.raise f).link.reportInProgress = s.link.reportInProgress ∧ (s.raise f).link.paused = s.link.paused
     ∧ (s.raise f).link.rotation = s.link.rotation ∧ (s.raise f).link.uplink = s.link.uplink := by
  simp only [State.raise]; split <;> simp

/-- What a conditional raise leaves. -/
@[simp] theorem State.raiseIf_frame (s : State) (b : Bool) (f : Flag) :
    (s.raiseIf b f).resetApplied = s.resetApplied ∧ (s.raiseIf b f).lanes = s.lanes
     ∧ (s.raiseIf b f).aligner = s.aligner ∧ (s.raiseIf b f).released = s.released
     ∧ (s.raiseIf b f).history = s.history ∧ (s.raiseIf b f).completed = s.completed
     ∧ (s.raiseIf b f).engine = s.engine ∧ (s.raiseIf b f).requests = s.requests ∧ (s.raiseIf b f).bank = s.bank
     ∧ (s.raiseIf b f).calendar = s.calendar ∧ (s.raiseIf b f).demand = s.demand
     ∧ (s.raiseIf b f).credits = s.credits ∧ (s.raiseIf b f).timeNotices = s.timeNotices
     ∧ (s.raiseIf b f).tables = s.tables ∧ (s.raiseIf b f).capture = s.capture
     ∧ (s.raiseIf b f).checkers = s.checkers ∧ (s.raiseIf b f).freeChoices = s.freeChoices
     ∧ (s.raiseIf b f).pending = s.pending ∧ (s.raiseIf b f).link.downlink = s.link.downlink
     ∧ (s.raiseIf b f).link.commands = s.link.commands ∧ (s.raiseIf b f).link.responses = s.link.responses
     ∧ (s.raiseIf b f).link.responseInProgress = s.link.responseInProgress
     ∧ (s.raiseIf b f).link.reports = s.link.reports
     ∧ (s.raiseIf b f).link.reportInProgress = s.link.reportInProgress ∧ (s.raiseIf b f).link.paused = s.link.paused
     ∧ (s.raiseIf b f).link.rotation = s.link.rotation ∧ (s.raiseIf b f).link.uplink = s.link.uplink := by
  unfold State.raiseIf; split <;> simp

/-- A report touches the fault monitor and the urgent slot. -/
@[simp] theorem State.report_frame (s : State) (f : Flag) (v : Bool) :
    (s.report f v).resetApplied = s.resetApplied ∧ (s.report f v).lanes = s.lanes
     ∧ (s.report f v).aligner = s.aligner ∧ (s.report f v).released = s.released
     ∧ (s.report f v).history = s.history ∧ (s.report f v).completed = s.completed
     ∧ (s.report f v).engine = s.engine ∧ (s.report f v).requests = s.requests ∧ (s.report f v).bank = s.bank
     ∧ (s.report f v).calendar = s.calendar ∧ (s.report f v).demand = s.demand ∧ (s.report f v).credits = s.credits
     ∧ (s.report f v).timeNotices = s.timeNotices ∧ (s.report f v).tables = s.tables
     ∧ (s.report f v).capture = s.capture ∧ (s.report f v).checkers = s.checkers
     ∧ (s.report f v).freeChoices = s.freeChoices ∧ (s.report f v).pending = s.pending
     ∧ (s.report f v).link.downlink = s.link.downlink ∧ (s.report f v).link.commands = s.link.commands
     ∧ (s.report f v).link.responses = s.link.responses
     ∧ (s.report f v).link.responseInProgress = s.link.responseInProgress
     ∧ (s.report f v).link.reports = s.link.reports ∧ (s.report f v).link.reportInProgress = s.link.reportInProgress
     ∧ (s.report f v).link.paused = s.link.paused ∧ (s.report f v).link.rotation = s.link.rotation
     ∧ (s.report f v).link.uplink = s.link.uplink := by
  simp [State.report]

/-- What the report of a lane's conditions leaves. -/
@[simp] theorem State.reportLane_frame (s : State) (x : Phase) :
    (s.reportLane x).resetApplied = s.resetApplied ∧ (s.reportLane x).lanes = s.lanes
     ∧ (s.reportLane x).aligner = s.aligner ∧ (s.reportLane x).released = s.released
     ∧ (s.reportLane x).history = s.history ∧ (s.reportLane x).completed = s.completed
     ∧ (s.reportLane x).engine = s.engine ∧ (s.reportLane x).requests = s.requests ∧ (s.reportLane x).bank = s.bank
     ∧ (s.reportLane x).calendar = s.calendar ∧ (s.reportLane x).demand = s.demand
     ∧ (s.reportLane x).credits = s.credits ∧ (s.reportLane x).timeNotices = s.timeNotices
     ∧ (s.reportLane x).tables = s.tables ∧ (s.reportLane x).capture = s.capture
     ∧ (s.reportLane x).checkers = s.checkers ∧ (s.reportLane x).freeChoices = s.freeChoices
     ∧ (s.reportLane x).pending = s.pending ∧ (s.reportLane x).link.downlink = s.link.downlink
     ∧ (s.reportLane x).link.commands = s.link.commands ∧ (s.reportLane x).link.responses = s.link.responses
     ∧ (s.reportLane x).link.responseInProgress = s.link.responseInProgress
     ∧ (s.reportLane x).link.reports = s.link.reports
     ∧ (s.reportLane x).link.reportInProgress = s.link.reportInProgress
     ∧ (s.reportLane x).link.paused = s.link.paused ∧ (s.reportLane x).link.rotation = s.link.rotation
     ∧ (s.reportLane x).link.uplink = s.link.uplink := by
  simp [State.reportLane]

/-- What the report of the engine's conditions leaves. -/
@[simp] theorem State.reportEngine_frame (s : State) :
    (s.reportEngine).resetApplied = s.resetApplied ∧ (s.reportEngine).lanes = s.lanes
     ∧ (s.reportEngine).aligner = s.aligner ∧ (s.reportEngine).released = s.released
     ∧ (s.reportEngine).history = s.history ∧ (s.reportEngine).completed = s.completed
     ∧ (s.reportEngine).engine = s.engine ∧ (s.reportEngine).requests = s.requests ∧ (s.reportEngine).bank = s.bank
     ∧ (s.reportEngine).calendar = s.calendar ∧ (s.reportEngine).demand = s.demand
     ∧ (s.reportEngine).credits = s.credits ∧ (s.reportEngine).timeNotices = s.timeNotices
     ∧ (s.reportEngine).tables = s.tables ∧ (s.reportEngine).capture = s.capture
     ∧ (s.reportEngine).checkers = s.checkers ∧ (s.reportEngine).freeChoices = s.freeChoices
     ∧ (s.reportEngine).pending = s.pending ∧ (s.reportEngine).link.downlink = s.link.downlink
     ∧ (s.reportEngine).link.commands = s.link.commands ∧ (s.reportEngine).link.responses = s.link.responses
     ∧ (s.reportEngine).link.responseInProgress = s.link.responseInProgress
     ∧ (s.reportEngine).link.reports = s.link.reports
     ∧ (s.reportEngine).link.reportInProgress = s.link.reportInProgress
     ∧ (s.reportEngine).link.paused = s.link.paused ∧ (s.reportEngine).link.rotation = s.link.rotation
     ∧ (s.reportEngine).link.uplink = s.link.uplink := by
  simp [State.reportEngine]

/-! ### Lanes and checkers -/

/-- A change of lane touches the lane, its cycle memory, and the fault monitor. -/
@[simp] theorem State.changeLane_frame (s : State) (x : Phase) (l : Lane) :
    (s.changeLane x l).resetApplied = s.resetApplied ∧ (s.changeLane x l).released = s.released
     ∧ (s.changeLane x l).history = s.history ∧ (s.changeLane x l).completed = s.completed
     ∧ (s.changeLane x l).engine = s.engine ∧ (s.changeLane x l).requests = s.requests
     ∧ (s.changeLane x l).bank = s.bank ∧ (s.changeLane x l).calendar = s.calendar
     ∧ (s.changeLane x l).demand = s.demand ∧ (s.changeLane x l).credits = s.credits
     ∧ (s.changeLane x l).timeNotices = s.timeNotices ∧ (s.changeLane x l).tables = s.tables
     ∧ (s.changeLane x l).capture = s.capture ∧ (s.changeLane x l).checkers = s.checkers
     ∧ (s.changeLane x l).freeChoices = s.freeChoices ∧ (s.changeLane x l).pending = s.pending
     ∧ (s.changeLane x l).link.downlink = s.link.downlink ∧ (s.changeLane x l).link.commands = s.link.commands
     ∧ (s.changeLane x l).link.responses = s.link.responses
     ∧ (s.changeLane x l).link.responseInProgress = s.link.responseInProgress
     ∧ (s.changeLane x l).link.reports = s.link.reports
     ∧ (s.changeLane x l).link.reportInProgress = s.link.reportInProgress
     ∧ (s.changeLane x l).link.paused = s.link.paused ∧ (s.changeLane x l).link.rotation = s.link.rotation
     ∧ (s.changeLane x l).link.uplink = s.link.uplink ∧ (s.changeLane x l).aligner.nextIndex = s.aligner.nextIndex
     ∧ (s.changeLane x l).aligner.openRange = s.aligner.openRange
     ∧ (s.changeLane x l).aligner.latest = s.aligner.latest
     ∧ (s.changeLane x l).aligner.restartPoint = s.aligner.restartPoint
     ∧ (s.changeLane x l).aligner.windowClosed = s.aligner.windowClosed
     ∧ (s.changeLane x l).aligner.bandChanged = s.aligner.bandChanged
     ∧ (s.changeLane x l).aligner.directionReversed = s.aligner.directionReversed
     ∧ (s.changeLane x l).aligner.estimating = s.aligner.estimating := by
  simp only [State.changeLane]; split <;> simp

/-- What a change of a checker context leaves. -/
@[simp] theorem State.changeChecker_frame (s : State) (x : Phase) (c : Checker) :
    (s.changeChecker x c).resetApplied = s.resetApplied ∧ (s.changeChecker x c).lanes = s.lanes
     ∧ (s.changeChecker x c).aligner = s.aligner ∧ (s.changeChecker x c).released = s.released
     ∧ (s.changeChecker x c).history = s.history ∧ (s.changeChecker x c).completed = s.completed
     ∧ (s.changeChecker x c).engine = s.engine ∧ (s.changeChecker x c).requests = s.requests
     ∧ (s.changeChecker x c).bank = s.bank ∧ (s.changeChecker x c).calendar = s.calendar
     ∧ (s.changeChecker x c).demand = s.demand ∧ (s.changeChecker x c).credits = s.credits
     ∧ (s.changeChecker x c).timeNotices = s.timeNotices ∧ (s.changeChecker x c).tables = s.tables
     ∧ (s.changeChecker x c).capture = s.capture ∧ (s.changeChecker x c).freeChoices = s.freeChoices
     ∧ (s.changeChecker x c).pending = s.pending ∧ (s.changeChecker x c).link.downlink = s.link.downlink
     ∧ (s.changeChecker x c).link.commands = s.link.commands
     ∧ (s.changeChecker x c).link.responses = s.link.responses
     ∧ (s.changeChecker x c).link.responseInProgress = s.link.responseInProgress
     ∧ (s.changeChecker x c).link.reports = s.link.reports
     ∧ (s.changeChecker x c).link.reportInProgress = s.link.reportInProgress
     ∧ (s.changeChecker x c).link.paused = s.link.paused ∧ (s.changeChecker x c).link.rotation = s.link.rotation
     ∧ (s.changeChecker x c).link.uplink = s.link.uplink := by
  simp only [State.changeChecker]; split <;> simp

/-- What the end of a timebase leaves. -/
@[simp] theorem State.endTimebase_frame (s : State) (x : Phase) :
    (s.endTimebase x).resetApplied = s.resetApplied ∧ (s.endTimebase x).lanes = s.lanes
     ∧ (s.endTimebase x).aligner = s.aligner ∧ (s.endTimebase x).released = s.released
     ∧ (s.endTimebase x).history = s.history ∧ (s.endTimebase x).completed = s.completed
     ∧ (s.endTimebase x).engine = s.engine ∧ (s.endTimebase x).requests = s.requests
     ∧ (s.endTimebase x).bank = s.bank ∧ (s.endTimebase x).calendar = s.calendar
     ∧ (s.endTimebase x).demand = s.demand ∧ (s.endTimebase x).credits = s.credits
     ∧ (s.endTimebase x).timeNotices = s.timeNotices ∧ (s.endTimebase x).tables = s.tables
     ∧ (s.endTimebase x).capture = s.capture ∧ (s.endTimebase x).freeChoices = s.freeChoices
     ∧ (s.endTimebase x).pending = s.pending ∧ (s.endTimebase x).link.downlink = s.link.downlink
     ∧ (s.endTimebase x).link.commands = s.link.commands ∧ (s.endTimebase x).link.responses = s.link.responses
     ∧ (s.endTimebase x).link.responseInProgress = s.link.responseInProgress
     ∧ (s.endTimebase x).link.reports = s.link.reports
     ∧ (s.endTimebase x).link.reportInProgress = s.link.reportInProgress
     ∧ (s.endTimebase x).link.paused = s.link.paused ∧ (s.endTimebase x).link.rotation = s.link.rotation
     ∧ (s.endTimebase x).link.uplink = s.link.uplink := by
  simp only [State.endTimebase]; split <;> simp

/-- What the end of a lane test leaves. -/
@[simp] theorem State.endLaneTest_frame (s : State) (x : Phase) :
    (s.endLaneTest x).resetApplied = s.resetApplied ∧ (s.endLaneTest x).lanes = s.lanes
     ∧ (s.endLaneTest x).aligner = s.aligner ∧ (s.endLaneTest x).released = s.released
     ∧ (s.endLaneTest x).history = s.history ∧ (s.endLaneTest x).completed = s.completed
     ∧ (s.endLaneTest x).engine = s.engine ∧ (s.endLaneTest x).requests = s.requests
     ∧ (s.endLaneTest x).bank = s.bank ∧ (s.endLaneTest x).calendar = s.calendar
     ∧ (s.endLaneTest x).demand = s.demand ∧ (s.endLaneTest x).credits = s.credits
     ∧ (s.endLaneTest x).timeNotices = s.timeNotices ∧ (s.endLaneTest x).tables = s.tables
     ∧ (s.endLaneTest x).monitor = s.monitor ∧ (s.endLaneTest x).link = s.link
     ∧ (s.endLaneTest x).capture = s.capture ∧ (s.endLaneTest x).freeChoices = s.freeChoices
     ∧ (s.endLaneTest x).pending = s.pending := by
  unfold State.endLaneTest; split <;> simp

/-- What a strobe at a checker leaves. -/
@[simp] theorem State.strobeChecker_frame (s : State) (x : Phase) (n : StrobeIndex) :
    (s.strobeChecker x n).resetApplied = s.resetApplied ∧ (s.strobeChecker x n).lanes = s.lanes
     ∧ (s.strobeChecker x n).aligner = s.aligner ∧ (s.strobeChecker x n).released = s.released
     ∧ (s.strobeChecker x n).history = s.history ∧ (s.strobeChecker x n).completed = s.completed
     ∧ (s.strobeChecker x n).engine = s.engine ∧ (s.strobeChecker x n).requests = s.requests
     ∧ (s.strobeChecker x n).bank = s.bank ∧ (s.strobeChecker x n).calendar = s.calendar
     ∧ (s.strobeChecker x n).demand = s.demand ∧ (s.strobeChecker x n).credits = s.credits
     ∧ (s.strobeChecker x n).timeNotices = s.timeNotices ∧ (s.strobeChecker x n).tables = s.tables
     ∧ (s.strobeChecker x n).capture = s.capture ∧ (s.strobeChecker x n).freeChoices = s.freeChoices
     ∧ (s.strobeChecker x n).pending = s.pending ∧ (s.strobeChecker x n).link.downlink = s.link.downlink
     ∧ (s.strobeChecker x n).link.commands = s.link.commands
     ∧ (s.strobeChecker x n).link.responses = s.link.responses
     ∧ (s.strobeChecker x n).link.responseInProgress = s.link.responseInProgress
     ∧ (s.strobeChecker x n).link.reports = s.link.reports
     ∧ (s.strobeChecker x n).link.reportInProgress = s.link.reportInProgress
     ∧ (s.strobeChecker x n).link.paused = s.link.paused ∧ (s.strobeChecker x n).link.rotation = s.link.rotation
     ∧ (s.strobeChecker x n).link.uplink = s.link.uplink := by
  unfold State.strobeChecker; split <;> simp

/-- What the end of a quality period leaves. -/
@[simp] theorem State.endPeriod_frame (s : State) (x : Phase) :
    (s.endPeriod x).resetApplied = s.resetApplied ∧ (s.endPeriod x).released = s.released
     ∧ (s.endPeriod x).history = s.history ∧ (s.endPeriod x).completed = s.completed
     ∧ (s.endPeriod x).engine = s.engine ∧ (s.endPeriod x).requests = s.requests ∧ (s.endPeriod x).bank = s.bank
     ∧ (s.endPeriod x).calendar = s.calendar ∧ (s.endPeriod x).demand = s.demand
     ∧ (s.endPeriod x).credits = s.credits ∧ (s.endPeriod x).timeNotices = s.timeNotices
     ∧ (s.endPeriod x).tables = s.tables ∧ (s.endPeriod x).capture = s.capture
     ∧ (s.endPeriod x).checkers = s.checkers ∧ (s.endPeriod x).freeChoices = s.freeChoices
     ∧ (s.endPeriod x).pending = s.pending ∧ (s.endPeriod x).link.downlink = s.link.downlink
     ∧ (s.endPeriod x).link.commands = s.link.commands ∧ (s.endPeriod x).link.responses = s.link.responses
     ∧ (s.endPeriod x).link.responseInProgress = s.link.responseInProgress
     ∧ (s.endPeriod x).link.reports = s.link.reports
     ∧ (s.endPeriod x).link.reportInProgress = s.link.reportInProgress ∧ (s.endPeriod x).link.paused = s.link.paused
     ∧ (s.endPeriod x).link.rotation = s.link.rotation ∧ (s.endPeriod x).link.uplink = s.link.uplink
     ∧ (s.endPeriod x).aligner.nextIndex = s.aligner.nextIndex
     ∧ (s.endPeriod x).aligner.openRange = s.aligner.openRange ∧ (s.endPeriod x).aligner.latest = s.aligner.latest
     ∧ (s.endPeriod x).aligner.restartPoint = s.aligner.restartPoint
     ∧ (s.endPeriod x).aligner.windowClosed = s.aligner.windowClosed
     ∧ (s.endPeriod x).aligner.bandChanged = s.aligner.bandChanged
     ∧ (s.endPeriod x).aligner.directionReversed = s.aligner.directionReversed
     ∧ (s.endPeriod x).aligner.estimating = s.aligner.estimating := by
  simp [State.endPeriod]

/-- What a sequence error leaves. -/
@[simp] theorem State.sequenceError_frame (s : State) (x : Phase) :
    (s.sequenceError x).resetApplied = s.resetApplied ∧ (s.sequenceError x).released = s.released
     ∧ (s.sequenceError x).history = s.history ∧ (s.sequenceError x).completed = s.completed
     ∧ (s.sequenceError x).engine = s.engine ∧ (s.sequenceError x).requests = s.requests
     ∧ (s.sequenceError x).bank = s.bank ∧ (s.sequenceError x).calendar = s.calendar
     ∧ (s.sequenceError x).demand = s.demand ∧ (s.sequenceError x).credits = s.credits
     ∧ (s.sequenceError x).timeNotices = s.timeNotices ∧ (s.sequenceError x).tables = s.tables
     ∧ (s.sequenceError x).capture = s.capture ∧ (s.sequenceError x).checkers = s.checkers
     ∧ (s.sequenceError x).freeChoices = s.freeChoices ∧ (s.sequenceError x).pending = s.pending
     ∧ (s.sequenceError x).link.downlink = s.link.downlink ∧ (s.sequenceError x).link.commands = s.link.commands
     ∧ (s.sequenceError x).link.responses = s.link.responses
     ∧ (s.sequenceError x).link.responseInProgress = s.link.responseInProgress
     ∧ (s.sequenceError x).link.reports = s.link.reports
     ∧ (s.sequenceError x).link.reportInProgress = s.link.reportInProgress
     ∧ (s.sequenceError x).link.paused = s.link.paused ∧ (s.sequenceError x).link.rotation = s.link.rotation
     ∧ (s.sequenceError x).link.uplink = s.link.uplink ∧ (s.sequenceError x).aligner.nextIndex = s.aligner.nextIndex
     ∧ (s.sequenceError x).aligner.openRange = s.aligner.openRange
     ∧ (s.sequenceError x).aligner.latest = s.aligner.latest
     ∧ (s.sequenceError x).aligner.restartPoint = s.aligner.restartPoint
     ∧ (s.sequenceError x).aligner.windowClosed = s.aligner.windowClosed
     ∧ (s.sequenceError x).aligner.bandChanged = s.aligner.bandChanged
     ∧ (s.sequenceError x).aligner.directionReversed = s.aligner.directionReversed
     ∧ (s.sequenceError x).aligner.estimating = s.aligner.estimating := by
  simp only [State.sequenceError]; split <;> simp

/-- What the judgement of a SAMPLE frame leaves. -/
@[simp] theorem State.judgeSample_frame (s : State) (x : Phase) (f : SampleFrame) :
    (s.judgeSample x f).resetApplied = s.resetApplied ∧ (s.judgeSample x f).released = s.released
     ∧ (s.judgeSample x f).history = s.history ∧ (s.judgeSample x f).completed = s.completed
     ∧ (s.judgeSample x f).engine = s.engine ∧ (s.judgeSample x f).requests = s.requests
     ∧ (s.judgeSample x f).bank = s.bank ∧ (s.judgeSample x f).calendar = s.calendar
     ∧ (s.judgeSample x f).demand = s.demand ∧ (s.judgeSample x f).credits = s.credits
     ∧ (s.judgeSample x f).timeNotices = s.timeNotices ∧ (s.judgeSample x f).tables = s.tables
     ∧ (s.judgeSample x f).capture = s.capture ∧ (s.judgeSample x f).checkers = s.checkers
     ∧ (s.judgeSample x f).freeChoices = s.freeChoices ∧ (s.judgeSample x f).pending = s.pending
     ∧ (s.judgeSample x f).link.downlink = s.link.downlink ∧ (s.judgeSample x f).link.commands = s.link.commands
     ∧ (s.judgeSample x f).link.responses = s.link.responses
     ∧ (s.judgeSample x f).link.responseInProgress = s.link.responseInProgress
     ∧ (s.judgeSample x f).link.reports = s.link.reports
     ∧ (s.judgeSample x f).link.reportInProgress = s.link.reportInProgress
     ∧ (s.judgeSample x f).link.paused = s.link.paused ∧ (s.judgeSample x f).link.rotation = s.link.rotation
     ∧ (s.judgeSample x f).link.uplink = s.link.uplink ∧ (s.judgeSample x f).aligner.nextIndex = s.aligner.nextIndex
     ∧ (s.judgeSample x f).aligner.openRange = s.aligner.openRange
     ∧ (s.judgeSample x f).aligner.latest = s.aligner.latest
     ∧ (s.judgeSample x f).aligner.restartPoint = s.aligner.restartPoint
     ∧ (s.judgeSample x f).aligner.windowClosed = s.aligner.windowClosed
     ∧ (s.judgeSample x f).aligner.bandChanged = s.aligner.bandChanged
     ∧ (s.judgeSample x f).aligner.directionReversed = s.aligner.directionReversed
     ∧ (s.judgeSample x f).aligner.estimating = s.aligner.estimating := by
  simp only [State.judgeSample]; repeat' split
  all_goals simp

/-- What the judgement of an up-direction frame leaves. -/
@[simp] theorem State.judgeFrame_frame (s : State) (x : Phase) (f : UpLaneFrame) :
    (s.judgeFrame x f).resetApplied = s.resetApplied ∧ (s.judgeFrame x f).released = s.released
     ∧ (s.judgeFrame x f).history = s.history ∧ (s.judgeFrame x f).completed = s.completed
     ∧ (s.judgeFrame x f).engine = s.engine ∧ (s.judgeFrame x f).requests = s.requests
     ∧ (s.judgeFrame x f).bank = s.bank ∧ (s.judgeFrame x f).calendar = s.calendar
     ∧ (s.judgeFrame x f).demand = s.demand ∧ (s.judgeFrame x f).credits = s.credits
     ∧ (s.judgeFrame x f).timeNotices = s.timeNotices ∧ (s.judgeFrame x f).tables = s.tables
     ∧ (s.judgeFrame x f).capture = s.capture ∧ (s.judgeFrame x f).freeChoices = s.freeChoices
     ∧ (s.judgeFrame x f).pending = s.pending ∧ (s.judgeFrame x f).link.downlink = s.link.downlink
     ∧ (s.judgeFrame x f).link.commands = s.link.commands ∧ (s.judgeFrame x f).link.responses = s.link.responses
     ∧ (s.judgeFrame x f).link.responseInProgress = s.link.responseInProgress
     ∧ (s.judgeFrame x f).link.reports = s.link.reports
     ∧ (s.judgeFrame x f).link.reportInProgress = s.link.reportInProgress
     ∧ (s.judgeFrame x f).link.paused = s.link.paused ∧ (s.judgeFrame x f).link.rotation = s.link.rotation
     ∧ (s.judgeFrame x f).link.uplink = s.link.uplink ∧ (s.judgeFrame x f).aligner.nextIndex = s.aligner.nextIndex
     ∧ (s.judgeFrame x f).aligner.openRange = s.aligner.openRange
     ∧ (s.judgeFrame x f).aligner.latest = s.aligner.latest
     ∧ (s.judgeFrame x f).aligner.restartPoint = s.aligner.restartPoint
     ∧ (s.judgeFrame x f).aligner.windowClosed = s.aligner.windowClosed
     ∧ (s.judgeFrame x f).aligner.bandChanged = s.aligner.bandChanged
     ∧ (s.judgeFrame x f).aligner.directionReversed = s.aligner.directionReversed
     ∧ (s.judgeFrame x f).aligner.estimating = s.aligner.estimating := by
  simp only [State.judgeFrame]; repeat' split
  all_goals simp

/-- What the receipt of an up-direction frame leaves. -/
@[simp] theorem State.receiveFrame_frame (s : State) (x : Phase) (f : LineFrame) :
    (s.receiveFrame x f).resetApplied = s.resetApplied ∧ (s.receiveFrame x f).released = s.released
     ∧ (s.receiveFrame x f).history = s.history ∧ (s.receiveFrame x f).completed = s.completed
     ∧ (s.receiveFrame x f).engine = s.engine ∧ (s.receiveFrame x f).requests = s.requests
     ∧ (s.receiveFrame x f).bank = s.bank ∧ (s.receiveFrame x f).calendar = s.calendar
     ∧ (s.receiveFrame x f).demand = s.demand ∧ (s.receiveFrame x f).credits = s.credits
     ∧ (s.receiveFrame x f).timeNotices = s.timeNotices ∧ (s.receiveFrame x f).tables = s.tables
     ∧ (s.receiveFrame x f).capture = s.capture ∧ (s.receiveFrame x f).freeChoices = s.freeChoices
     ∧ (s.receiveFrame x f).pending = s.pending ∧ (s.receiveFrame x f).link.downlink = s.link.downlink
     ∧ (s.receiveFrame x f).link.commands = s.link.commands ∧ (s.receiveFrame x f).link.responses = s.link.responses
     ∧ (s.receiveFrame x f).link.responseInProgress = s.link.responseInProgress
     ∧ (s.receiveFrame x f).link.reports = s.link.reports
     ∧ (s.receiveFrame x f).link.reportInProgress = s.link.reportInProgress
     ∧ (s.receiveFrame x f).link.paused = s.link.paused ∧ (s.receiveFrame x f).link.rotation = s.link.rotation
     ∧ (s.receiveFrame x f).link.uplink = s.link.uplink
     ∧ (s.receiveFrame x f).aligner.nextIndex = s.aligner.nextIndex
     ∧ (s.receiveFrame x f).aligner.openRange = s.aligner.openRange
     ∧ (s.receiveFrame x f).aligner.latest = s.aligner.latest
     ∧ (s.receiveFrame x f).aligner.restartPoint = s.aligner.restartPoint
     ∧ (s.receiveFrame x f).aligner.windowClosed = s.aligner.windowClosed
     ∧ (s.receiveFrame x f).aligner.bandChanged = s.aligner.bandChanged
     ∧ (s.receiveFrame x f).aligner.directionReversed = s.aligner.directionReversed
     ∧ (s.receiveFrame x f).aligner.estimating = s.aligner.estimating := by
  simp only [State.receiveFrame]; repeat' split
  all_goals simp

/-! ### Calendar -/

/-- An evaluation's result replaces the band in force and its source. -/
@[simp] theorem State.withBandNow_frame (s : State) :
    (s.withBandNow).resetApplied = s.resetApplied ∧ (s.withBandNow).lanes = s.lanes
     ∧ (s.withBandNow).aligner = s.aligner ∧ (s.withBandNow).released = s.released
     ∧ (s.withBandNow).history = s.history ∧ (s.withBandNow).completed = s.completed
     ∧ (s.withBandNow).engine = s.engine ∧ (s.withBandNow).requests = s.requests ∧ (s.withBandNow).bank = s.bank
     ∧ (s.withBandNow).demand = s.demand ∧ (s.withBandNow).credits = s.credits
     ∧ (s.withBandNow).timeNotices = s.timeNotices ∧ (s.withBandNow).tables = s.tables
     ∧ (s.withBandNow).monitor = s.monitor ∧ (s.withBandNow).link = s.link ∧ (s.withBandNow).capture = s.capture
     ∧ (s.withBandNow).checkers = s.checkers ∧ (s.withBandNow).freeChoices = s.freeChoices
     ∧ (s.withBandNow).pending = s.pending ∧ (s.withBandNow).calendar.day = s.calendar.day
     ∧ (s.withBandNow).calendar.minute = s.calendar.minute
     ∧ (s.withBandNow).calendar.strobeCount = s.calendar.strobeCount
     ∧ (s.withBandNow).calendar.clockSet = s.calendar.clockSet
     ∧ (s.withBandNow).calendar.specialDays = s.calendar.specialDays := by
  simp [State.withBandNow]

/-- What an evaluation leaves (R110, R113). -/
@[simp] theorem State.evaluate_frame (s : State) :
    (s.evaluate).resetApplied = s.resetApplied ∧ (s.evaluate).lanes = s.lanes ∧ (s.evaluate).released = s.released
     ∧ (s.evaluate).history = s.history ∧ (s.evaluate).completed = s.completed ∧ (s.evaluate).engine = s.engine
     ∧ (s.evaluate).bank = s.bank ∧ (s.evaluate).demand = s.demand ∧ (s.evaluate).credits = s.credits
     ∧ (s.evaluate).timeNotices = s.timeNotices ∧ (s.evaluate).tables = s.tables ∧ (s.evaluate).monitor = s.monitor
     ∧ (s.evaluate).link = s.link ∧ (s.evaluate).capture = s.capture ∧ (s.evaluate).checkers = s.checkers
     ∧ (s.evaluate).freeChoices = s.freeChoices ∧ (s.evaluate).pending = s.pending
     ∧ (s.evaluate).calendar.day = s.calendar.day ∧ (s.evaluate).calendar.minute = s.calendar.minute
     ∧ (s.evaluate).calendar.strobeCount = s.calendar.strobeCount
     ∧ (s.evaluate).calendar.clockSet = s.calendar.clockSet
     ∧ (s.evaluate).calendar.specialDays = s.calendar.specialDays
     ∧ (s.evaluate).aligner.nextIndex = s.aligner.nextIndex ∧ (s.evaluate).aligner.openRange = s.aligner.openRange
     ∧ (s.evaluate).aligner.latest = s.aligner.latest ∧ (s.evaluate).aligner.restartPoint = s.aligner.restartPoint
     ∧ (s.evaluate).aligner.windowClosed = s.aligner.windowClosed
     ∧ (s.evaluate).aligner.directionReversed = s.aligner.directionReversed
     ∧ (s.evaluate).aligner.cycles = s.aligner.cycles ∧ (s.evaluate).aligner.estimating = s.aligner.estimating := by
  simp only [State.evaluate]; split <;> simp

/-! ### Demand unit and bank -/

/-- The beginning of an interval touches the demand unit alone. -/
@[simp] theorem State.beginInterval_frame (s : State) (p : Bool) (r : Bool) :
    (s.beginInterval p r).resetApplied = s.resetApplied ∧ (s.beginInterval p r).lanes = s.lanes
     ∧ (s.beginInterval p r).aligner = s.aligner ∧ (s.beginInterval p r).released = s.released
     ∧ (s.beginInterval p r).history = s.history ∧ (s.beginInterval p r).completed = s.completed
     ∧ (s.beginInterval p r).engine = s.engine ∧ (s.beginInterval p r).requests = s.requests
     ∧ (s.beginInterval p r).bank = s.bank ∧ (s.beginInterval p r).calendar = s.calendar
     ∧ (s.beginInterval p r).credits = s.credits ∧ (s.beginInterval p r).timeNotices = s.timeNotices
     ∧ (s.beginInterval p r).tables = s.tables ∧ (s.beginInterval p r).monitor = s.monitor
     ∧ (s.beginInterval p r).link = s.link ∧ (s.beginInterval p r).capture = s.capture
     ∧ (s.beginInterval p r).checkers = s.checkers ∧ (s.beginInterval p r).freeChoices = s.freeChoices
     ∧ (s.beginInterval p r).pending = s.pending := by
  simp [State.beginInterval]

/-- What the end of an interval leaves. -/
@[simp] theorem State.endInterval_frame (s : State) :
    (s.endInterval).resetApplied = s.resetApplied ∧ (s.endInterval).lanes = s.lanes
     ∧ (s.endInterval).aligner = s.aligner ∧ (s.endInterval).released = s.released
     ∧ (s.endInterval).history = s.history ∧ (s.endInterval).completed = s.completed
     ∧ (s.endInterval).engine = s.engine ∧ (s.endInterval).bank = s.bank ∧ (s.endInterval).calendar = s.calendar
     ∧ (s.endInterval).credits = s.credits ∧ (s.endInterval).timeNotices = s.timeNotices
     ∧ (s.endInterval).tables = s.tables ∧ (s.endInterval).monitor = s.monitor ∧ (s.endInterval).link = s.link
     ∧ (s.endInterval).capture = s.capture ∧ (s.endInterval).checkers = s.checkers
     ∧ (s.endInterval).freeChoices = s.freeChoices ∧ (s.endInterval).pending = s.pending := by
  unfold State.endInterval; split <;> simp

/-- What the close of an interval leaves. -/
@[simp] theorem State.closeInterval_frame (s : State) (b : Band) :
    (s.closeInterval b).resetApplied = s.resetApplied ∧ (s.closeInterval b).lanes = s.lanes
     ∧ (s.closeInterval b).aligner = s.aligner ∧ (s.closeInterval b).released = s.released
     ∧ (s.closeInterval b).history = s.history ∧ (s.closeInterval b).completed = s.completed
     ∧ (s.closeInterval b).engine = s.engine ∧ (s.closeInterval b).requests = s.requests
     ∧ (s.closeInterval b).bank = s.bank ∧ (s.closeInterval b).calendar = s.calendar
     ∧ (s.closeInterval b).credits = s.credits ∧ (s.closeInterval b).timeNotices = s.timeNotices
     ∧ (s.closeInterval b).tables = s.tables ∧ (s.closeInterval b).capture = s.capture
     ∧ (s.closeInterval b).checkers = s.checkers ∧ (s.closeInterval b).freeChoices = s.freeChoices
     ∧ (s.closeInterval b).pending = s.pending ∧ (s.closeInterval b).link.downlink = s.link.downlink
     ∧ (s.closeInterval b).link.commands = s.link.commands ∧ (s.closeInterval b).link.responses = s.link.responses
     ∧ (s.closeInterval b).link.responseInProgress = s.link.responseInProgress
     ∧ (s.closeInterval b).link.reports = s.link.reports
     ∧ (s.closeInterval b).link.reportInProgress = s.link.reportInProgress
     ∧ (s.closeInterval b).link.paused = s.link.paused ∧ (s.closeInterval b).link.rotation = s.link.rotation
     ∧ (s.closeInterval b).link.uplink = s.link.uplink := by
  simp only [State.closeInterval]; repeat' split
  all_goals simp

/-- What a credit leaves. -/
@[simp] theorem State.acceptCredit_frame (s : State) (c : Credit) :
    (s.acceptCredit c).resetApplied = s.resetApplied ∧ (s.acceptCredit c).lanes = s.lanes
     ∧ (s.acceptCredit c).aligner = s.aligner ∧ (s.acceptCredit c).released = s.released
     ∧ (s.acceptCredit c).history = s.history ∧ (s.acceptCredit c).completed = s.completed
     ∧ (s.acceptCredit c).engine = s.engine ∧ (s.acceptCredit c).requests = s.requests
     ∧ (s.acceptCredit c).bank = s.bank ∧ (s.acceptCredit c).calendar = s.calendar
     ∧ (s.acceptCredit c).credits = s.credits ∧ (s.acceptCredit c).timeNotices = s.timeNotices
     ∧ (s.acceptCredit c).tables = s.tables ∧ (s.acceptCredit c).capture = s.capture
     ∧ (s.acceptCredit c).checkers = s.checkers ∧ (s.acceptCredit c).freeChoices = s.freeChoices
     ∧ (s.acceptCredit c).pending = s.pending ∧ (s.acceptCredit c).link.downlink = s.link.downlink
     ∧ (s.acceptCredit c).link.commands = s.link.commands ∧ (s.acceptCredit c).link.responses = s.link.responses
     ∧ (s.acceptCredit c).link.responseInProgress = s.link.responseInProgress
     ∧ (s.acceptCredit c).link.reports = s.link.reports
     ∧ (s.acceptCredit c).link.reportInProgress = s.link.reportInProgress
     ∧ (s.acceptCredit c).link.paused = s.link.paused ∧ (s.acceptCredit c).link.rotation = s.link.rotation
     ∧ (s.acceptCredit c).link.uplink = s.link.uplink := by
  simp only [State.acceptCredit]; repeat' split
  all_goals simp

/-- What the taking of a credit leaves. -/
@[simp] theorem State.takeCredit_frame (s : State) :
    (s.takeCredit).resetApplied = s.resetApplied ∧ (s.takeCredit).lanes = s.lanes
     ∧ (s.takeCredit).aligner = s.aligner ∧ (s.takeCredit).released = s.released
     ∧ (s.takeCredit).history = s.history ∧ (s.takeCredit).completed = s.completed
     ∧ (s.takeCredit).engine = s.engine ∧ (s.takeCredit).requests = s.requests ∧ (s.takeCredit).bank = s.bank
     ∧ (s.takeCredit).calendar = s.calendar ∧ (s.takeCredit).timeNotices = s.timeNotices
     ∧ (s.takeCredit).tables = s.tables ∧ (s.takeCredit).capture = s.capture ∧ (s.takeCredit).checkers = s.checkers
     ∧ (s.takeCredit).freeChoices = s.freeChoices ∧ (s.takeCredit).pending = s.pending
     ∧ (s.takeCredit).link.downlink = s.link.downlink ∧ (s.takeCredit).link.commands = s.link.commands
     ∧ (s.takeCredit).link.responses = s.link.responses
     ∧ (s.takeCredit).link.responseInProgress = s.link.responseInProgress
     ∧ (s.takeCredit).link.reports = s.link.reports ∧ (s.takeCredit).link.reportInProgress = s.link.reportInProgress
     ∧ (s.takeCredit).link.paused = s.link.paused ∧ (s.takeCredit).link.rotation = s.link.rotation
     ∧ (s.takeCredit).link.uplink = s.link.uplink := by
  simp only [State.takeCredit]; split <;> simp

/-- What a notice of a SET TIME leaves. -/
@[simp] theorem State.takeNotice_frame (s : State) :
    (s.takeNotice).resetApplied = s.resetApplied ∧ (s.takeNotice).lanes = s.lanes
     ∧ (s.takeNotice).aligner = s.aligner ∧ (s.takeNotice).released = s.released
     ∧ (s.takeNotice).history = s.history ∧ (s.takeNotice).completed = s.completed
     ∧ (s.takeNotice).engine = s.engine ∧ (s.takeNotice).requests = s.requests ∧ (s.takeNotice).bank = s.bank
     ∧ (s.takeNotice).calendar = s.calendar ∧ (s.takeNotice).credits = s.credits ∧ (s.takeNotice).tables = s.tables
     ∧ (s.takeNotice).monitor = s.monitor ∧ (s.takeNotice).link = s.link ∧ (s.takeNotice).capture = s.capture
     ∧ (s.takeNotice).checkers = s.checkers ∧ (s.takeNotice).freeChoices = s.freeChoices
     ∧ (s.takeNotice).pending = s.pending := by
  simp only [State.takeNotice]; repeat' split
  all_goals simp

/-- What the hand-over of a minute rollover leaves. -/
@[simp] theorem State.minuteToDemand_frame (s : State) :
    (s.minuteToDemand).resetApplied = s.resetApplied ∧ (s.minuteToDemand).lanes = s.lanes
     ∧ (s.minuteToDemand).aligner = s.aligner ∧ (s.minuteToDemand).released = s.released
     ∧ (s.minuteToDemand).history = s.history ∧ (s.minuteToDemand).completed = s.completed
     ∧ (s.minuteToDemand).engine = s.engine ∧ (s.minuteToDemand).bank = s.bank
     ∧ (s.minuteToDemand).calendar = s.calendar ∧ (s.minuteToDemand).credits = s.credits
     ∧ (s.minuteToDemand).timeNotices = s.timeNotices ∧ (s.minuteToDemand).tables = s.tables
     ∧ (s.minuteToDemand).monitor = s.monitor ∧ (s.minuteToDemand).link = s.link
     ∧ (s.minuteToDemand).capture = s.capture ∧ (s.minuteToDemand).checkers = s.checkers
     ∧ (s.minuteToDemand).freeChoices = s.freeChoices ∧ (s.minuteToDemand).pending = s.pending := by
  unfold State.minuteToDemand; split <;> simp

/-- What a terminal count leaves. -/
@[simp] theorem State.takeTerminalCount_frame (s : State) :
    (s.takeTerminalCount).resetApplied = s.resetApplied ∧ (s.takeTerminalCount).lanes = s.lanes
     ∧ (s.takeTerminalCount).aligner = s.aligner ∧ (s.takeTerminalCount).released = s.released
     ∧ (s.takeTerminalCount).history = s.history ∧ (s.takeTerminalCount).completed = s.completed
     ∧ (s.takeTerminalCount).engine = s.engine ∧ (s.takeTerminalCount).bank = s.bank
     ∧ (s.takeTerminalCount).calendar = s.calendar ∧ (s.takeTerminalCount).credits = s.credits
     ∧ (s.takeTerminalCount).timeNotices = s.timeNotices ∧ (s.takeTerminalCount).tables = s.tables
     ∧ (s.takeTerminalCount).monitor = s.monitor ∧ (s.takeTerminalCount).link = s.link
     ∧ (s.takeTerminalCount).capture = s.capture ∧ (s.takeTerminalCount).checkers = s.checkers
     ∧ (s.takeTerminalCount).freeChoices = s.freeChoices ∧ (s.takeTerminalCount).pending = s.pending := by
  simp [State.takeTerminalCount]

/-- A credit handed over touches the hand-over alone. -/
@[simp] theorem State.handCredit_frame (s : State) (c : Credit) :
    (s.handCredit c).resetApplied = s.resetApplied ∧ (s.handCredit c).lanes = s.lanes
     ∧ (s.handCredit c).aligner = s.aligner ∧ (s.handCredit c).released = s.released
     ∧ (s.handCredit c).history = s.history ∧ (s.handCredit c).completed = s.completed
     ∧ (s.handCredit c).engine = s.engine ∧ (s.handCredit c).requests = s.requests ∧ (s.handCredit c).bank = s.bank
     ∧ (s.handCredit c).calendar = s.calendar ∧ (s.handCredit c).demand = s.demand
     ∧ (s.handCredit c).timeNotices = s.timeNotices ∧ (s.handCredit c).tables = s.tables
     ∧ (s.handCredit c).monitor = s.monitor ∧ (s.handCredit c).link = s.link ∧ (s.handCredit c).capture = s.capture
     ∧ (s.handCredit c).checkers = s.checkers ∧ (s.handCredit c).freeChoices = s.freeChoices
     ∧ (s.handCredit c).pending = s.pending := by
  simp [State.handCredit]

/-- What a credit step leaves. -/
@[simp] theorem State.creditBank_frame (s : State) (q : Nat) (b : Band) (f : Flows) (g : PerPhase Flows) (m : Bool) :
    (s.creditBank q b f g m).resetApplied = s.resetApplied ∧ (s.creditBank q b f g m).lanes = s.lanes
     ∧ (s.creditBank q b f g m).aligner = s.aligner ∧ (s.creditBank q b f g m).released = s.released
     ∧ (s.creditBank q b f g m).history = s.history ∧ (s.creditBank q b f g m).completed = s.completed
     ∧ (s.creditBank q b f g m).engine = s.engine ∧ (s.creditBank q b f g m).requests = s.requests
     ∧ (s.creditBank q b f g m).calendar = s.calendar ∧ (s.creditBank q b f g m).demand = s.demand
     ∧ (s.creditBank q b f g m).timeNotices = s.timeNotices ∧ (s.creditBank q b f g m).tables = s.tables
     ∧ (s.creditBank q b f g m).capture = s.capture ∧ (s.creditBank q b f g m).checkers = s.checkers
     ∧ (s.creditBank q b f g m).freeChoices = s.freeChoices ∧ (s.creditBank q b f g m).pending = s.pending
     ∧ (s.creditBank q b f g m).link.downlink = s.link.downlink
     ∧ (s.creditBank q b f g m).link.commands = s.link.commands
     ∧ (s.creditBank q b f g m).link.responses = s.link.responses
     ∧ (s.creditBank q b f g m).link.responseInProgress = s.link.responseInProgress
     ∧ (s.creditBank q b f g m).link.reports = s.link.reports
     ∧ (s.creditBank q b f g m).link.reportInProgress = s.link.reportInProgress
     ∧ (s.creditBank q b f g m).link.paused = s.link.paused
     ∧ (s.creditBank q b f g m).link.rotation = s.link.rotation
     ∧ (s.creditBank q b f g m).link.uplink = s.link.uplink := by
  simp [State.creditBank]

/-- What a normalisation leaves. -/
@[simp] theorem State.normalise_frame (s : State) (q : Nat) (b : Band) :
    (s.normalise q b).resetApplied = s.resetApplied ∧ (s.normalise q b).lanes = s.lanes
     ∧ (s.normalise q b).aligner = s.aligner ∧ (s.normalise q b).released = s.released
     ∧ (s.normalise q b).history = s.history ∧ (s.normalise q b).completed = s.completed
     ∧ (s.normalise q b).engine = s.engine ∧ (s.normalise q b).requests = s.requests
     ∧ (s.normalise q b).calendar = s.calendar ∧ (s.normalise q b).demand = s.demand
     ∧ (s.normalise q b).timeNotices = s.timeNotices ∧ (s.normalise q b).tables = s.tables
     ∧ (s.normalise q b).capture = s.capture ∧ (s.normalise q b).checkers = s.checkers
     ∧ (s.normalise q b).freeChoices = s.freeChoices ∧ (s.normalise q b).pending = s.pending
     ∧ (s.normalise q b).link.downlink = s.link.downlink ∧ (s.normalise q b).link.commands = s.link.commands
     ∧ (s.normalise q b).link.responses = s.link.responses
     ∧ (s.normalise q b).link.responseInProgress = s.link.responseInProgress
     ∧ (s.normalise q b).link.reports = s.link.reports
     ∧ (s.normalise q b).link.reportInProgress = s.link.reportInProgress
     ∧ (s.normalise q b).link.paused = s.link.paused ∧ (s.normalise q b).link.rotation = s.link.rotation
     ∧ (s.normalise q b).link.uplink = s.link.uplink := by
  simp [State.normalise]

end Sys2Proof.Machine
end

