-- ==== Sys2Proof/Laws/BlockFrames.lean ====
section
/-!
SUPPORT. For each operation of a block one lemma that says all that it leaves unchanged.
-/

namespace Sys2Proof.Machine

/-! ### Aligner and arithmetic unit -/

/-- What a release leaves. -/
@[simp] theorem State.releaseSet_frame (s : State) (n : StrobeIndex) (r : List StrobeIndex) :
    (s.releaseSet n r).resetApplied = s.resetApplied ∧ (s.releaseSet n r).history = s.history
     ∧ (s.releaseSet n r).completed = s.completed ∧ (s.releaseSet n r).engine = s.engine
     ∧ (s.releaseSet n r).requests = s.requests ∧ (s.releaseSet n r).bank = s.bank
     ∧ (s.releaseSet n r).calendar = s.calendar ∧ (s.releaseSet n r).demand = s.demand
     ∧ (s.releaseSet n r).credits = s.credits ∧ (s.releaseSet n r).timeNotices = s.timeNotices
     ∧ (s.releaseSet n r).tables = s.tables ∧ (s.releaseSet n r).capture = s.capture
     ∧ (s.releaseSet n r).checkers = s.checkers ∧ (s.releaseSet n r).freeChoices = s.freeChoices
     ∧ (s.releaseSet n r).pending = s.pending ∧ (s.releaseSet n r).link.downlink = s.link.downlink
     ∧ (s.releaseSet n r).link.commands = s.link.commands ∧ (s.releaseSet n r).link.responses = s.link.responses
     ∧ (s.releaseSet n r).link.responseInProgress = s.link.responseInProgress
     ∧ (s.releaseSet n r).link.reports = s.link.reports
     ∧ (s.releaseSet n r).link.reportInProgress = s.link.reportInProgress
     ∧ (s.releaseSet n r).link.paused = s.link.paused ∧ (s.releaseSet n r).link.rotation = s.link.rotation
     ∧ (s.releaseSet n r).link.uplink = s.link.uplink ∧ (s.releaseSet n r).aligner.nextIndex = s.aligner.nextIndex
     ∧ (s.releaseSet n r).aligner.latest = s.aligner.latest
     ∧ (s.releaseSet n r).aligner.restartPoint = s.aligner.restartPoint := by
  simp [State.releaseSet]

/-- What a release, where it is due, leaves. -/
@[simp] theorem State.releaseIfDue_frame (s : State) :
    (s.releaseIfDue).resetApplied = s.resetApplied ∧ (s.releaseIfDue).history = s.history
     ∧ (s.releaseIfDue).completed = s.completed ∧ (s.releaseIfDue).engine = s.engine
     ∧ (s.releaseIfDue).requests = s.requests ∧ (s.releaseIfDue).bank = s.bank
     ∧ (s.releaseIfDue).calendar = s.calendar ∧ (s.releaseIfDue).demand = s.demand
     ∧ (s.releaseIfDue).credits = s.credits ∧ (s.releaseIfDue).timeNotices = s.timeNotices
     ∧ (s.releaseIfDue).tables = s.tables ∧ (s.releaseIfDue).capture = s.capture
     ∧ (s.releaseIfDue).checkers = s.checkers ∧ (s.releaseIfDue).freeChoices = s.freeChoices
     ∧ (s.releaseIfDue).pending = s.pending ∧ (s.releaseIfDue).link.downlink = s.link.downlink
     ∧ (s.releaseIfDue).link.commands = s.link.commands ∧ (s.releaseIfDue).link.responses = s.link.responses
     ∧ (s.releaseIfDue).link.responseInProgress = s.link.responseInProgress
     ∧ (s.releaseIfDue).link.reports = s.link.reports
     ∧ (s.releaseIfDue).link.reportInProgress = s.link.reportInProgress
     ∧ (s.releaseIfDue).link.paused = s.link.paused ∧ (s.releaseIfDue).link.rotation = s.link.rotation
     ∧ (s.releaseIfDue).link.uplink = s.link.uplink ∧ (s.releaseIfDue).aligner.nextIndex = s.aligner.nextIndex
     ∧ (s.releaseIfDue).aligner.latest = s.aligner.latest
     ∧ (s.releaseIfDue).aligner.restartPoint = s.aligner.restartPoint := by
  simp only [State.releaseIfDue]; repeat' split
  all_goals simp

/-- What the issue of a strobe leaves. -/
@[simp] theorem State.issueStrobe_frame (s : State) :
    (s.issueStrobe).resetApplied = s.resetApplied ∧ (s.issueStrobe).released = s.released
     ∧ (s.issueStrobe).history = s.history ∧ (s.issueStrobe).completed = s.completed
     ∧ (s.issueStrobe).engine = s.engine ∧ (s.issueStrobe).requests = s.requests ∧ (s.issueStrobe).bank = s.bank
     ∧ (s.issueStrobe).demand = s.demand ∧ (s.issueStrobe).credits = s.credits
     ∧ (s.issueStrobe).timeNotices = s.timeNotices ∧ (s.issueStrobe).tables = s.tables
     ∧ (s.issueStrobe).capture = s.capture ∧ (s.issueStrobe).freeChoices = s.freeChoices
     ∧ (s.issueStrobe).pending = s.pending ∧ (s.issueStrobe).link.downlink = s.link.downlink
     ∧ (s.issueStrobe).link.commands = s.link.commands ∧ (s.issueStrobe).link.responses = s.link.responses
     ∧ (s.issueStrobe).link.responseInProgress = s.link.responseInProgress
     ∧ (s.issueStrobe).link.reports = s.link.reports
     ∧ (s.issueStrobe).link.reportInProgress = s.link.reportInProgress ∧ (s.issueStrobe).link.paused = s.link.paused
     ∧ (s.issueStrobe).link.rotation = s.link.rotation ∧ (s.issueStrobe).link.uplink = s.link.uplink
     ∧ (s.issueStrobe).calendar.day = s.calendar.day ∧ (s.issueStrobe).calendar.minute = s.calendar.minute
     ∧ (s.issueStrobe).calendar.clockSet = s.calendar.clockSet
     ∧ (s.issueStrobe).calendar.specialDays = s.calendar.specialDays
     ∧ (s.issueStrobe).calendar.band = s.calendar.band ∧ (s.issueStrobe).calendar.source = s.calendar.source
     ∧ (s.issueStrobe).aligner.restartPoint = s.aligner.restartPoint
     ∧ (s.issueStrobe).aligner.windowClosed = s.aligner.windowClosed
     ∧ (s.issueStrobe).aligner.bandChanged = s.aligner.bandChanged
     ∧ (s.issueStrobe).aligner.directionReversed = s.aligner.directionReversed
     ∧ (s.issueStrobe).aligner.cycles = s.aligner.cycles ∧ (s.issueStrobe).aligner.estimating = s.aligner.estimating := by
  simp [State.issueStrobe]

/-- What the forwarding of a capture record leaves. -/
@[simp] theorem State.forward_frame (s : State) (c : CompletedSet) :
    (s.forward c).resetApplied = s.resetApplied ∧ (s.forward c).lanes = s.lanes ∧ (s.forward c).aligner = s.aligner
     ∧ (s.forward c).released = s.released ∧ (s.forward c).history = s.history
     ∧ (s.forward c).completed = s.completed ∧ (s.forward c).engine = s.engine ∧ (s.forward c).requests = s.requests
     ∧ (s.forward c).bank = s.bank ∧ (s.forward c).calendar = s.calendar ∧ (s.forward c).demand = s.demand
     ∧ (s.forward c).credits = s.credits ∧ (s.forward c).timeNotices = s.timeNotices
     ∧ (s.forward c).tables = s.tables ∧ (s.forward c).checkers = s.checkers
     ∧ (s.forward c).freeChoices = s.freeChoices ∧ (s.forward c).pending = s.pending
     ∧ (s.forward c).link.downlink = s.link.downlink ∧ (s.forward c).link.commands = s.link.commands
     ∧ (s.forward c).link.responses = s.link.responses
     ∧ (s.forward c).link.responseInProgress = s.link.responseInProgress
     ∧ (s.forward c).link.reports = s.link.reports ∧ (s.forward c).link.reportInProgress = s.link.reportInProgress
     ∧ (s.forward c).link.paused = s.link.paused ∧ (s.forward c).link.rotation = s.link.rotation
     ∧ (s.forward c).link.uplink = s.link.uplink := by
  simp only [State.forward]; split <;> simp

/-- What a set taken in RUNNING leaves. -/
@[simp] theorem State.captureRunning_frame (s : State) (c : CompletedSet) :
    (s.captureRunning c).resetApplied = s.resetApplied ∧ (s.captureRunning c).lanes = s.lanes
     ∧ (s.captureRunning c).aligner = s.aligner ∧ (s.captureRunning c).released = s.released
     ∧ (s.captureRunning c).history = s.history ∧ (s.captureRunning c).completed = s.completed
     ∧ (s.captureRunning c).engine = s.engine ∧ (s.captureRunning c).requests = s.requests
     ∧ (s.captureRunning c).bank = s.bank ∧ (s.captureRunning c).calendar = s.calendar
     ∧ (s.captureRunning c).demand = s.demand ∧ (s.captureRunning c).credits = s.credits
     ∧ (s.captureRunning c).timeNotices = s.timeNotices ∧ (s.captureRunning c).tables = s.tables
     ∧ (s.captureRunning c).checkers = s.checkers ∧ (s.captureRunning c).freeChoices = s.freeChoices
     ∧ (s.captureRunning c).pending = s.pending ∧ (s.captureRunning c).link.downlink = s.link.downlink
     ∧ (s.captureRunning c).link.commands = s.link.commands ∧ (s.captureRunning c).link.responses = s.link.responses
     ∧ (s.captureRunning c).link.responseInProgress = s.link.responseInProgress
     ∧ (s.captureRunning c).link.reports = s.link.reports
     ∧ (s.captureRunning c).link.reportInProgress = s.link.reportInProgress
     ∧ (s.captureRunning c).link.paused = s.link.paused ∧ (s.captureRunning c).link.rotation = s.link.rotation
     ∧ (s.captureRunning c).link.uplink = s.link.uplink := by
  simp only [State.captureRunning]; repeat' split
  all_goals simp

/-- What the capture unit's taking of a set leaves. -/
@[simp] theorem State.captureSet_frame (s : State) (c : CompletedSet) :
    (s.captureSet c).resetApplied = s.resetApplied ∧ (s.captureSet c).lanes = s.lanes
     ∧ (s.captureSet c).aligner = s.aligner ∧ (s.captureSet c).released = s.released
     ∧ (s.captureSet c).history = s.history ∧ (s.captureSet c).completed = s.completed
     ∧ (s.captureSet c).engine = s.engine ∧ (s.captureSet c).requests = s.requests ∧ (s.captureSet c).bank = s.bank
     ∧ (s.captureSet c).calendar = s.calendar ∧ (s.captureSet c).demand = s.demand
     ∧ (s.captureSet c).credits = s.credits ∧ (s.captureSet c).timeNotices = s.timeNotices
     ∧ (s.captureSet c).tables = s.tables ∧ (s.captureSet c).checkers = s.checkers
     ∧ (s.captureSet c).freeChoices = s.freeChoices ∧ (s.captureSet c).pending = s.pending
     ∧ (s.captureSet c).link.downlink = s.link.downlink ∧ (s.captureSet c).link.commands = s.link.commands
     ∧ (s.captureSet c).link.responses = s.link.responses
     ∧ (s.captureSet c).link.responseInProgress = s.link.responseInProgress
     ∧ (s.captureSet c).link.reports = s.link.reports
     ∧ (s.captureSet c).link.reportInProgress = s.link.reportInProgress
     ∧ (s.captureSet c).link.paused = s.link.paused ∧ (s.captureSet c).link.rotation = s.link.rotation
     ∧ (s.captureSet c).link.uplink = s.link.uplink := by
  simp only [State.captureSet]; repeat' split
  all_goals simp

/-- What the arithmetic step of a set record leaves. -/
@[simp] theorem State.takeRecord_frame (s : State) (r : SetRecord) :
    (s.takeRecord r).resetApplied = s.resetApplied ∧ (s.takeRecord r).lanes = s.lanes
     ∧ (s.takeRecord r).aligner = s.aligner ∧ (s.takeRecord r).released = s.released
     ∧ (s.takeRecord r).engine = s.engine ∧ (s.takeRecord r).requests = s.requests ∧ (s.takeRecord r).bank = s.bank
     ∧ (s.takeRecord r).calendar = s.calendar ∧ (s.takeRecord r).demand = s.demand
     ∧ (s.takeRecord r).credits = s.credits ∧ (s.takeRecord r).timeNotices = s.timeNotices
     ∧ (s.takeRecord r).tables = s.tables ∧ (s.takeRecord r).checkers = s.checkers
     ∧ (s.takeRecord r).freeChoices = s.freeChoices ∧ (s.takeRecord r).pending = s.pending
     ∧ (s.takeRecord r).link.downlink = s.link.downlink ∧ (s.takeRecord r).link.commands = s.link.commands
     ∧ (s.takeRecord r).link.responses = s.link.responses
     ∧ (s.takeRecord r).link.responseInProgress = s.link.responseInProgress
     ∧ (s.takeRecord r).link.reports = s.link.reports
     ∧ (s.takeRecord r).link.reportInProgress = s.link.reportInProgress
     ∧ (s.takeRecord r).link.paused = s.link.paused ∧ (s.takeRecord r).link.rotation = s.link.rotation
     ∧ (s.takeRecord r).link.uplink = s.link.uplink := by
  simp [State.takeRecord]

/-- What an arithmetic step leaves. -/
@[simp] theorem State.takeReleased_frame (s : State) :
    (s.takeReleased).resetApplied = s.resetApplied ∧ (s.takeReleased).lanes = s.lanes
     ∧ (s.takeReleased).aligner = s.aligner ∧ (s.takeReleased).engine = s.engine
     ∧ (s.takeReleased).requests = s.requests ∧ (s.takeReleased).bank = s.bank
     ∧ (s.takeReleased).calendar = s.calendar ∧ (s.takeReleased).demand = s.demand
     ∧ (s.takeReleased).credits = s.credits ∧ (s.takeReleased).timeNotices = s.timeNotices
     ∧ (s.takeReleased).tables = s.tables ∧ (s.takeReleased).checkers = s.checkers
     ∧ (s.takeReleased).freeChoices = s.freeChoices ∧ (s.takeReleased).pending = s.pending
     ∧ (s.takeReleased).link.downlink = s.link.downlink ∧ (s.takeReleased).link.commands = s.link.commands
     ∧ (s.takeReleased).link.responses = s.link.responses
     ∧ (s.takeReleased).link.responseInProgress = s.link.responseInProgress
     ∧ (s.takeReleased).link.reports = s.link.reports
     ∧ (s.takeReleased).link.reportInProgress = s.link.reportInProgress
     ∧ (s.takeReleased).link.paused = s.link.paused ∧ (s.takeReleased).link.rotation = s.link.rotation
     ∧ (s.takeReleased).link.uplink = s.link.uplink := by
  simp only [State.takeReleased]; split <;> simp

/-! ### Table store -/

/-- What an install at a lane receiver leaves. -/
@[simp] theorem State.installAtLane_frame (s : State) (w : Bool) (d : Bool) (x : Phase) :
    (s.installAtLane w d x).resetApplied = s.resetApplied ∧ (s.installAtLane w d x).released = s.released
     ∧ (s.installAtLane w d x).history = s.history ∧ (s.installAtLane w d x).completed = s.completed
     ∧ (s.installAtLane w d x).engine = s.engine ∧ (s.installAtLane w d x).requests = s.requests
     ∧ (s.installAtLane w d x).bank = s.bank ∧ (s.installAtLane w d x).calendar = s.calendar
     ∧ (s.installAtLane w d x).demand = s.demand ∧ (s.installAtLane w d x).credits = s.credits
     ∧ (s.installAtLane w d x).timeNotices = s.timeNotices ∧ (s.installAtLane w d x).tables = s.tables
     ∧ (s.installAtLane w d x).capture = s.capture ∧ (s.installAtLane w d x).freeChoices = s.freeChoices
     ∧ (s.installAtLane w d x).pending = s.pending ∧ (s.installAtLane w d x).link.downlink = s.link.downlink
     ∧ (s.installAtLane w d x).link.commands = s.link.commands
     ∧ (s.installAtLane w d x).link.responses = s.link.responses
     ∧ (s.installAtLane w d x).link.responseInProgress = s.link.responseInProgress
     ∧ (s.installAtLane w d x).link.reports = s.link.reports
     ∧ (s.installAtLane w d x).link.reportInProgress = s.link.reportInProgress
     ∧ (s.installAtLane w d x).link.paused = s.link.paused ∧ (s.installAtLane w d x).link.rotation = s.link.rotation
     ∧ (s.installAtLane w d x).link.uplink = s.link.uplink
     ∧ (s.installAtLane w d x).aligner.nextIndex = s.aligner.nextIndex
     ∧ (s.installAtLane w d x).aligner.openRange = s.aligner.openRange
     ∧ (s.installAtLane w d x).aligner.latest = s.aligner.latest
     ∧ (s.installAtLane w d x).aligner.restartPoint = s.aligner.restartPoint
     ∧ (s.installAtLane w d x).aligner.windowClosed = s.aligner.windowClosed
     ∧ (s.installAtLane w d x).aligner.bandChanged = s.aligner.bandChanged
     ∧ (s.installAtLane w d x).aligner.directionReversed = s.aligner.directionReversed
     ∧ (s.installAtLane w d x).aligner.estimating = s.aligner.estimating := by
  simp only [State.installAtLane]; split <;> simp

/-- What an install at the aligner leaves. -/
@[simp] theorem State.installAtAligner_frame (s : State) (o : Option Meter) (m : Meter) :
    (s.installAtAligner o m).resetApplied = s.resetApplied ∧ (s.installAtAligner o m).lanes = s.lanes
     ∧ (s.installAtAligner o m).released = s.released ∧ (s.installAtAligner o m).history = s.history
     ∧ (s.installAtAligner o m).completed = s.completed ∧ (s.installAtAligner o m).engine = s.engine
     ∧ (s.installAtAligner o m).requests = s.requests ∧ (s.installAtAligner o m).bank = s.bank
     ∧ (s.installAtAligner o m).calendar = s.calendar ∧ (s.installAtAligner o m).demand = s.demand
     ∧ (s.installAtAligner o m).credits = s.credits ∧ (s.installAtAligner o m).timeNotices = s.timeNotices
     ∧ (s.installAtAligner o m).tables = s.tables ∧ (s.installAtAligner o m).monitor = s.monitor
     ∧ (s.installAtAligner o m).link = s.link ∧ (s.installAtAligner o m).capture = s.capture
     ∧ (s.installAtAligner o m).checkers = s.checkers ∧ (s.installAtAligner o m).freeChoices = s.freeChoices
     ∧ (s.installAtAligner o m).pending = s.pending
     ∧ (s.installAtAligner o m).aligner.nextIndex = s.aligner.nextIndex
     ∧ (s.installAtAligner o m).aligner.openRange = s.aligner.openRange
     ∧ (s.installAtAligner o m).aligner.latest = s.aligner.latest
     ∧ (s.installAtAligner o m).aligner.restartPoint = s.aligner.restartPoint
     ∧ (s.installAtAligner o m).aligner.windowClosed = s.aligner.windowClosed
     ∧ (s.installAtAligner o m).aligner.bandChanged = s.aligner.bandChanged
     ∧ (s.installAtAligner o m).aligner.directionReversed = s.aligner.directionReversed
     ∧ (s.installAtAligner o m).aligner.estimating = s.aligner.estimating := by
  simp only [State.installAtAligner]; repeat' split
  all_goals simp

/-- What an install at the register bank leaves. -/
@[simp] theorem State.installAtBank_frame (s : State) (o : Option Meter) (m : Meter) (b : Band) :
    (s.installAtBank o m b).resetApplied = s.resetApplied ∧ (s.installAtBank o m b).lanes = s.lanes
     ∧ (s.installAtBank o m b).aligner = s.aligner ∧ (s.installAtBank o m b).released = s.released
     ∧ (s.installAtBank o m b).history = s.history ∧ (s.installAtBank o m b).completed = s.completed
     ∧ (s.installAtBank o m b).engine = s.engine ∧ (s.installAtBank o m b).requests = s.requests
     ∧ (s.installAtBank o m b).calendar = s.calendar ∧ (s.installAtBank o m b).demand = s.demand
     ∧ (s.installAtBank o m b).timeNotices = s.timeNotices ∧ (s.installAtBank o m b).tables = s.tables
     ∧ (s.installAtBank o m b).capture = s.capture ∧ (s.installAtBank o m b).checkers = s.checkers
     ∧ (s.installAtBank o m b).freeChoices = s.freeChoices ∧ (s.installAtBank o m b).pending = s.pending
     ∧ (s.installAtBank o m b).link.downlink = s.link.downlink
     ∧ (s.installAtBank o m b).link.commands = s.link.commands
     ∧ (s.installAtBank o m b).link.responses = s.link.responses
     ∧ (s.installAtBank o m b).link.responseInProgress = s.link.responseInProgress
     ∧ (s.installAtBank o m b).link.reports = s.link.reports
     ∧ (s.installAtBank o m b).link.reportInProgress = s.link.reportInProgress
     ∧ (s.installAtBank o m b).link.paused = s.link.paused ∧ (s.installAtBank o m b).link.rotation = s.link.rotation
     ∧ (s.installAtBank o m b).link.uplink = s.link.uplink := by
  simp only [State.installAtBank]; repeat' split
  all_goals simp

/-- What the taking of credits leaves. -/
@[simp] theorem State.takeCredits_frame (n : Nat) (s : State) :
    (State.takeCredits n s).resetApplied = s.resetApplied ∧ (State.takeCredits n s).lanes = s.lanes
     ∧ (State.takeCredits n s).aligner = s.aligner ∧ (State.takeCredits n s).released = s.released
     ∧ (State.takeCredits n s).history = s.history ∧ (State.takeCredits n s).completed = s.completed
     ∧ (State.takeCredits n s).engine = s.engine ∧ (State.takeCredits n s).requests = s.requests
     ∧ (State.takeCredits n s).bank = s.bank ∧ (State.takeCredits n s).calendar = s.calendar
     ∧ (State.takeCredits n s).timeNotices = s.timeNotices ∧ (State.takeCredits n s).tables = s.tables
     ∧ (State.takeCredits n s).capture = s.capture ∧ (State.takeCredits n s).checkers = s.checkers
     ∧ (State.takeCredits n s).freeChoices = s.freeChoices ∧ (State.takeCredits n s).pending = s.pending
     ∧ (State.takeCredits n s).link.downlink = s.link.downlink
     ∧ (State.takeCredits n s).link.commands = s.link.commands
     ∧ (State.takeCredits n s).link.responses = s.link.responses
     ∧ (State.takeCredits n s).link.responseInProgress = s.link.responseInProgress
     ∧ (State.takeCredits n s).link.reports = s.link.reports
     ∧ (State.takeCredits n s).link.reportInProgress = s.link.reportInProgress
     ∧ (State.takeCredits n s).link.paused = s.link.paused ∧ (State.takeCredits n s).link.rotation = s.link.rotation
     ∧ (State.takeCredits n s).link.uplink = s.link.uplink := by
  induction n generalizing s with
  | zero => simp [State.takeCredits]
  | succ n ih => simp [State.takeCredits, ih]

/-- What the credits taken before an install leave. -/
@[simp] theorem State.creditsBeforeInstall_frame (s : State) (o : Option Meter) :
    (s.creditsBeforeInstall o).resetApplied = s.resetApplied ∧ (s.creditsBeforeInstall o).lanes = s.lanes
     ∧ (s.creditsBeforeInstall o).aligner = s.aligner ∧ (s.creditsBeforeInstall o).released = s.released
     ∧ (s.creditsBeforeInstall o).history = s.history ∧ (s.creditsBeforeInstall o).completed = s.completed
     ∧ (s.creditsBeforeInstall o).engine = s.engine ∧ (s.creditsBeforeInstall o).requests = s.requests
     ∧ (s.creditsBeforeInstall o).bank = s.bank ∧ (s.creditsBeforeInstall o).calendar = s.calendar
     ∧ (s.creditsBeforeInstall o).timeNotices = s.timeNotices ∧ (s.creditsBeforeInstall o).tables = s.tables
     ∧ (s.creditsBeforeInstall o).capture = s.capture ∧ (s.creditsBeforeInstall o).checkers = s.checkers
     ∧ (s.creditsBeforeInstall o).pending = s.pending ∧ (s.creditsBeforeInstall o).link.downlink = s.link.downlink
     ∧ (s.creditsBeforeInstall o).link.commands = s.link.commands
     ∧ (s.creditsBeforeInstall o).link.responses = s.link.responses
     ∧ (s.creditsBeforeInstall o).link.responseInProgress = s.link.responseInProgress
     ∧ (s.creditsBeforeInstall o).link.reports = s.link.reports
     ∧ (s.creditsBeforeInstall o).link.reportInProgress = s.link.reportInProgress
     ∧ (s.creditsBeforeInstall o).link.paused = s.link.paused
     ∧ (s.creditsBeforeInstall o).link.rotation = s.link.rotation
     ∧ (s.creditsBeforeInstall o).link.uplink = s.link.uplink := by
  simp [State.creditsBeforeInstall]

/-- What the abandonment at an install leaves. -/
@[simp] theorem State.abandonForInstall_frame (s : State) :
    (s.abandonForInstall).resetApplied = s.resetApplied ∧ (s.abandonForInstall).lanes = s.lanes
     ∧ (s.abandonForInstall).aligner = s.aligner ∧ (s.abandonForInstall).released = s.released
     ∧ (s.abandonForInstall).history = s.history ∧ (s.abandonForInstall).completed = s.completed
     ∧ (s.abandonForInstall).engine = s.engine ∧ (s.abandonForInstall).requests = s.requests
     ∧ (s.abandonForInstall).bank = s.bank ∧ (s.abandonForInstall).calendar = s.calendar
     ∧ (s.abandonForInstall).credits = s.credits ∧ (s.abandonForInstall).timeNotices = s.timeNotices
     ∧ (s.abandonForInstall).tables = s.tables ∧ (s.abandonForInstall).monitor = s.monitor
     ∧ (s.abandonForInstall).link = s.link ∧ (s.abandonForInstall).capture = s.capture
     ∧ (s.abandonForInstall).checkers = s.checkers ∧ (s.abandonForInstall).freeChoices = s.freeChoices
     ∧ (s.abandonForInstall).pending = s.pending := by
  simp only [State.abandonForInstall]; split <;> simp

/-- What an install at the demand unit leaves. -/
@[simp] theorem State.installAtDemand_frame (s : State) (o : Option Meter) (m : Meter) :
    (s.installAtDemand o m).resetApplied = s.resetApplied ∧ (s.installAtDemand o m).lanes = s.lanes
     ∧ (s.installAtDemand o m).aligner = s.aligner ∧ (s.installAtDemand o m).released = s.released
     ∧ (s.installAtDemand o m).history = s.history ∧ (s.installAtDemand o m).completed = s.completed
     ∧ (s.installAtDemand o m).engine = s.engine ∧ (s.installAtDemand o m).requests = s.requests
     ∧ (s.installAtDemand o m).bank = s.bank ∧ (s.installAtDemand o m).calendar = s.calendar
     ∧ (s.installAtDemand o m).timeNotices = s.timeNotices ∧ (s.installAtDemand o m).tables = s.tables
     ∧ (s.installAtDemand o m).capture = s.capture ∧ (s.installAtDemand o m).checkers = s.checkers
     ∧ (s.installAtDemand o m).pending = s.pending ∧ (s.installAtDemand o m).link.downlink = s.link.downlink
     ∧ (s.installAtDemand o m).link.commands = s.link.commands
     ∧ (s.installAtDemand o m).link.responses = s.link.responses
     ∧ (s.installAtDemand o m).link.responseInProgress = s.link.responseInProgress
     ∧ (s.installAtDemand o m).link.reports = s.link.reports
     ∧ (s.installAtDemand o m).link.reportInProgress = s.link.reportInProgress
     ∧ (s.installAtDemand o m).link.paused = s.link.paused ∧ (s.installAtDemand o m).link.rotation = s.link.rotation
     ∧ (s.installAtDemand o m).link.uplink = s.link.uplink := by
  simp only [State.installAtDemand]; repeat' split
  all_goals simp

/-- What an install at the watchdog leaves. -/
@[simp] theorem State.installAtWatchdog_frame (s : State) (o : Option Meter) (m : Meter) :
    (s.installAtWatchdog o m).resetApplied = s.resetApplied ∧ (s.installAtWatchdog o m).lanes = s.lanes
     ∧ (s.installAtWatchdog o m).aligner = s.aligner ∧ (s.installAtWatchdog o m).released = s.released
     ∧ (s.installAtWatchdog o m).history = s.history ∧ (s.installAtWatchdog o m).completed = s.completed
     ∧ (s.installAtWatchdog o m).engine = s.engine ∧ (s.installAtWatchdog o m).requests = s.requests
     ∧ (s.installAtWatchdog o m).bank = s.bank ∧ (s.installAtWatchdog o m).calendar = s.calendar
     ∧ (s.installAtWatchdog o m).demand = s.demand ∧ (s.installAtWatchdog o m).credits = s.credits
     ∧ (s.installAtWatchdog o m).timeNotices = s.timeNotices ∧ (s.installAtWatchdog o m).tables = s.tables
     ∧ (s.installAtWatchdog o m).link = s.link ∧ (s.installAtWatchdog o m).capture = s.capture
     ∧ (s.installAtWatchdog o m).checkers = s.checkers ∧ (s.installAtWatchdog o m).freeChoices = s.freeChoices
     ∧ (s.installAtWatchdog o m).pending = s.pending := by
  simp only [State.installAtWatchdog]; repeat' split
  all_goals simp

/-- What a METER install at the blocks leaves. -/
@[simp] theorem State.installMeter_frame (s : State) (o : Option Meter) (m : Meter) (b : Band) :
    (s.installMeter o m b).resetApplied = s.resetApplied ∧ (s.installMeter o m b).released = s.released
     ∧ (s.installMeter o m b).history = s.history ∧ (s.installMeter o m b).completed = s.completed
     ∧ (s.installMeter o m b).engine = s.engine ∧ (s.installMeter o m b).requests = s.requests
     ∧ (s.installMeter o m b).calendar = s.calendar ∧ (s.installMeter o m b).timeNotices = s.timeNotices
     ∧ (s.installMeter o m b).tables = s.tables ∧ (s.installMeter o m b).capture = s.capture
     ∧ (s.installMeter o m b).pending = s.pending ∧ (s.installMeter o m b).link.downlink = s.link.downlink
     ∧ (s.installMeter o m b).link.commands = s.link.commands
     ∧ (s.installMeter o m b).link.responses = s.link.responses
     ∧ (s.installMeter o m b).link.responseInProgress = s.link.responseInProgress
     ∧ (s.installMeter o m b).link.reports = s.link.reports
     ∧ (s.installMeter o m b).link.reportInProgress = s.link.reportInProgress
     ∧ (s.installMeter o m b).link.paused = s.link.paused ∧ (s.installMeter o m b).link.rotation = s.link.rotation
     ∧ (s.installMeter o m b).link.uplink = s.link.uplink
     ∧ (s.installMeter o m b).aligner.nextIndex = s.aligner.nextIndex
     ∧ (s.installMeter o m b).aligner.openRange = s.aligner.openRange
     ∧ (s.installMeter o m b).aligner.latest = s.aligner.latest
     ∧ (s.installMeter o m b).aligner.restartPoint = s.aligner.restartPoint
     ∧ (s.installMeter o m b).aligner.windowClosed = s.aligner.windowClosed
     ∧ (s.installMeter o m b).aligner.bandChanged = s.aligner.bandChanged
     ∧ (s.installMeter o m b).aligner.directionReversed = s.aligner.directionReversed
     ∧ (s.installMeter o m b).aligner.estimating = s.aligner.estimating := by
  simp [State.installMeter]

/-- What an install leaves. -/
@[simp] theorem State.install_frame (s : State) (w : TableChoice) (b : Band) :
    (s.install w b).resetApplied = s.resetApplied ∧ (s.install w b).released = s.released
     ∧ (s.install w b).completed = s.completed ∧ (s.install w b).engine = s.engine
     ∧ (s.install w b).timeNotices = s.timeNotices ∧ (s.install w b).capture = s.capture
     ∧ (s.install w b).pending = s.pending ∧ (s.install w b).link.downlink = s.link.downlink
     ∧ (s.install w b).link.commands = s.link.commands ∧ (s.install w b).link.responses = s.link.responses
     ∧ (s.install w b).link.responseInProgress = s.link.responseInProgress
     ∧ (s.install w b).link.reports = s.link.reports
     ∧ (s.install w b).link.reportInProgress = s.link.reportInProgress ∧ (s.install w b).link.paused = s.link.paused
     ∧ (s.install w b).link.rotation = s.link.rotation ∧ (s.install w b).link.uplink = s.link.uplink
     ∧ (s.install w b).aligner.nextIndex = s.aligner.nextIndex
     ∧ (s.install w b).aligner.openRange = s.aligner.openRange ∧ (s.install w b).aligner.latest = s.aligner.latest
     ∧ (s.install w b).aligner.restartPoint = s.aligner.restartPoint
     ∧ (s.install w b).aligner.windowClosed = s.aligner.windowClosed
     ∧ (s.install w b).aligner.directionReversed = s.aligner.directionReversed
     ∧ (s.install w b).aligner.estimating = s.aligner.estimating ∧ (s.install w b).calendar.day = s.calendar.day
     ∧ (s.install w b).calendar.minute = s.calendar.minute
     ∧ (s.install w b).calendar.strobeCount = s.calendar.strobeCount
     ∧ (s.install w b).calendar.clockSet = s.calendar.clockSet
     ∧ (s.install w b).calendar.specialDays = s.calendar.specialDays := by
  simp only [State.install]; repeat' split
  all_goals simp

/-- What the install of the outstanding requests leaves. -/
@[simp] theorem State.installRequested_frame (s : State) (b : Band) :
    (s.installRequested b).resetApplied = s.resetApplied ∧ (s.installRequested b).released = s.released
     ∧ (s.installRequested b).completed = s.completed ∧ (s.installRequested b).engine = s.engine
     ∧ (s.installRequested b).timeNotices = s.timeNotices ∧ (s.installRequested b).capture = s.capture
     ∧ (s.installRequested b).pending = s.pending ∧ (s.installRequested b).link.downlink = s.link.downlink
     ∧ (s.installRequested b).link.commands = s.link.commands
     ∧ (s.installRequested b).link.responses = s.link.responses
     ∧ (s.installRequested b).link.responseInProgress = s.link.responseInProgress
     ∧ (s.installRequested b).link.reports = s.link.reports
     ∧ (s.installRequested b).link.reportInProgress = s.link.reportInProgress
     ∧ (s.installRequested b).link.paused = s.link.paused ∧ (s.installRequested b).link.rotation = s.link.rotation
     ∧ (s.installRequested b).link.uplink = s.link.uplink
     ∧ (s.installRequested b).aligner.nextIndex = s.aligner.nextIndex
     ∧ (s.installRequested b).aligner.openRange = s.aligner.openRange
     ∧ (s.installRequested b).aligner.latest = s.aligner.latest
     ∧ (s.installRequested b).aligner.restartPoint = s.aligner.restartPoint
     ∧ (s.installRequested b).aligner.windowClosed = s.aligner.windowClosed
     ∧ (s.installRequested b).aligner.directionReversed = s.aligner.directionReversed
     ∧ (s.installRequested b).aligner.estimating = s.aligner.estimating
     ∧ (s.installRequested b).calendar.day = s.calendar.day
     ∧ (s.installRequested b).calendar.minute = s.calendar.minute
     ∧ (s.installRequested b).calendar.strobeCount = s.calendar.strobeCount
     ∧ (s.installRequested b).calendar.clockSet = s.calendar.clockSet
     ∧ (s.installRequested b).calendar.specialDays = s.calendar.specialDays := by
  simp [State.installRequested]

/-! ### Netting engine -/

/-- What a window report leaves. -/
@[simp] theorem State.queueReport_frame (s : State) (r : Summary) :
    (s.queueReport r).resetApplied = s.resetApplied ∧ (s.queueReport r).lanes = s.lanes
     ∧ (s.queueReport r).aligner = s.aligner ∧ (s.queueReport r).released = s.released
     ∧ (s.queueReport r).history = s.history ∧ (s.queueReport r).completed = s.completed
     ∧ (s.queueReport r).engine = s.engine ∧ (s.queueReport r).requests = s.requests
     ∧ (s.queueReport r).bank = s.bank ∧ (s.queueReport r).calendar = s.calendar
     ∧ (s.queueReport r).demand = s.demand ∧ (s.queueReport r).credits = s.credits
     ∧ (s.queueReport r).timeNotices = s.timeNotices ∧ (s.queueReport r).tables = s.tables
     ∧ (s.queueReport r).capture = s.capture ∧ (s.queueReport r).checkers = s.checkers
     ∧ (s.queueReport r).freeChoices = s.freeChoices ∧ (s.queueReport r).pending = s.pending
     ∧ (s.queueReport r).link.downlink = s.link.downlink ∧ (s.queueReport r).link.commands = s.link.commands
     ∧ (s.queueReport r).link.responses = s.link.responses
     ∧ (s.queueReport r).link.responseInProgress = s.link.responseInProgress
     ∧ (s.queueReport r).link.reportInProgress = s.link.reportInProgress
     ∧ (s.queueReport r).link.paused = s.link.paused ∧ (s.queueReport r).link.rotation = s.link.rotation
     ∧ (s.queueReport r).link.uplink = s.link.uplink := by
  simp only [State.queueReport]; split <;> simp

/-- What the stages 1 to 7 of a close leave. -/
@[simp] theorem State.closeStages_frame (s : State) (w : Window) (o : Opening) (c : CloseCause) :
    (s.closeStages w o c).resetApplied = s.resetApplied ∧ (s.closeStages w o c).lanes = s.lanes
     ∧ (s.closeStages w o c).released = s.released ∧ (s.closeStages w o c).history = s.history
     ∧ (s.closeStages w o c).completed = s.completed ∧ (s.closeStages w o c).requests = s.requests
     ∧ (s.closeStages w o c).calendar = s.calendar ∧ (s.closeStages w o c).demand = s.demand
     ∧ (s.closeStages w o c).timeNotices = s.timeNotices ∧ (s.closeStages w o c).tables = s.tables
     ∧ (s.closeStages w o c).capture = s.capture ∧ (s.closeStages w o c).checkers = s.checkers
     ∧ (s.closeStages w o c).freeChoices = s.freeChoices ∧ (s.closeStages w o c).pending = s.pending
     ∧ (s.closeStages w o c).link.downlink = s.link.downlink ∧ (s.closeStages w o c).link.commands = s.link.commands
     ∧ (s.closeStages w o c).link.responses = s.link.responses
     ∧ (s.closeStages w o c).link.responseInProgress = s.link.responseInProgress
     ∧ (s.closeStages w o c).link.reportInProgress = s.link.reportInProgress
     ∧ (s.closeStages w o c).link.paused = s.link.paused ∧ (s.closeStages w o c).link.rotation = s.link.rotation
     ∧ (s.closeStages w o c).link.uplink = s.link.uplink
     ∧ (s.closeStages w o c).aligner.nextIndex = s.aligner.nextIndex
     ∧ (s.closeStages w o c).aligner.openRange = s.aligner.openRange
     ∧ (s.closeStages w o c).aligner.latest = s.aligner.latest
     ∧ (s.closeStages w o c).aligner.restartPoint = s.aligner.restartPoint
     ∧ (s.closeStages w o c).aligner.bandChanged = s.aligner.bandChanged
     ∧ (s.closeStages w o c).aligner.cycles = s.aligner.cycles
     ∧ (s.closeStages w o c).aligner.estimating = s.aligner.estimating := by
  simp only [State.closeStages]; split <;> simp

/-- What a close leaves. -/
@[simp] theorem State.closeWindow_frame (s : State) (w : Window) (o : Opening) (c : CloseCause) :
    (s.closeWindow w o c).resetApplied = s.resetApplied ∧ (s.closeWindow w o c).released = s.released
     ∧ (s.closeWindow w o c).completed = s.completed ∧ (s.closeWindow w o c).timeNotices = s.timeNotices
     ∧ (s.closeWindow w o c).capture = s.capture ∧ (s.closeWindow w o c).pending = s.pending
     ∧ (s.closeWindow w o c).link.downlink = s.link.downlink ∧ (s.closeWindow w o c).link.commands = s.link.commands
     ∧ (s.closeWindow w o c).link.responses = s.link.responses
     ∧ (s.closeWindow w o c).link.responseInProgress = s.link.responseInProgress
     ∧ (s.closeWindow w o c).link.reportInProgress = s.link.reportInProgress
     ∧ (s.closeWindow w o c).link.paused = s.link.paused ∧ (s.closeWindow w o c).link.rotation = s.link.rotation
     ∧ (s.closeWindow w o c).link.uplink = s.link.uplink
     ∧ (s.closeWindow w o c).aligner.nextIndex = s.aligner.nextIndex
     ∧ (s.closeWindow w o c).aligner.openRange = s.aligner.openRange
     ∧ (s.closeWindow w o c).aligner.latest = s.aligner.latest
     ∧ (s.closeWindow w o c).aligner.restartPoint = s.aligner.restartPoint
     ∧ (s.closeWindow w o c).aligner.estimating = s.aligner.estimating
     ∧ (s.closeWindow w o c).calendar.day = s.calendar.day
     ∧ (s.closeWindow w o c).calendar.minute = s.calendar.minute
     ∧ (s.closeWindow w o c).calendar.strobeCount = s.calendar.strobeCount
     ∧ (s.closeWindow w o c).calendar.clockSet = s.calendar.clockSet
     ∧ (s.closeWindow w o c).calendar.specialDays = s.calendar.specialDays := by
  simp only [State.closeWindow]; split <;> simp

/-- What the demand counter's terminal count, where it is due, leaves. -/
@[simp] theorem State.takeTerminal_frame (s : State) :
    (s.takeTerminal).resetApplied = s.resetApplied ∧ (s.takeTerminal).lanes = s.lanes
     ∧ (s.takeTerminal).aligner = s.aligner ∧ (s.takeTerminal).released = s.released
     ∧ (s.takeTerminal).history = s.history ∧ (s.takeTerminal).completed = s.completed
     ∧ (s.takeTerminal).engine = s.engine ∧ (s.takeTerminal).bank = s.bank ∧ (s.takeTerminal).calendar = s.calendar
     ∧ (s.takeTerminal).credits = s.credits ∧ (s.takeTerminal).timeNotices = s.timeNotices
     ∧ (s.takeTerminal).tables = s.tables ∧ (s.takeTerminal).monitor = s.monitor ∧ (s.takeTerminal).link = s.link
     ∧ (s.takeTerminal).capture = s.capture ∧ (s.takeTerminal).checkers = s.checkers
     ∧ (s.takeTerminal).freeChoices = s.freeChoices ∧ (s.takeTerminal).pending = s.pending := by
  unfold State.takeTerminal; split <;> simp

/-- What the processing of a set leaves. -/
@[simp] theorem State.processInto_frame (s : State) (w : Window) (m : Meter) (c : CompletedSet) :
    (s.processInto w m c).resetApplied = s.resetApplied ∧ (s.processInto w m c).released = s.released
     ∧ (s.processInto w m c).completed = s.completed ∧ (s.processInto w m c).timeNotices = s.timeNotices
     ∧ (s.processInto w m c).capture = s.capture ∧ (s.processInto w m c).pending = s.pending
     ∧ (s.processInto w m c).link.downlink = s.link.downlink ∧ (s.processInto w m c).link.commands = s.link.commands
     ∧ (s.processInto w m c).link.responses = s.link.responses
     ∧ (s.processInto w m c).link.responseInProgress = s.link.responseInProgress
     ∧ (s.processInto w m c).link.reportInProgress = s.link.reportInProgress
     ∧ (s.processInto w m c).link.paused = s.link.paused ∧ (s.processInto w m c).link.rotation = s.link.rotation
     ∧ (s.processInto w m c).link.uplink = s.link.uplink
     ∧ (s.processInto w m c).aligner.nextIndex = s.aligner.nextIndex
     ∧ (s.processInto w m c).aligner.openRange = s.aligner.openRange
     ∧ (s.processInto w m c).aligner.latest = s.aligner.latest
     ∧ (s.processInto w m c).aligner.restartPoint = s.aligner.restartPoint
     ∧ (s.processInto w m c).aligner.estimating = s.aligner.estimating
     ∧ (s.processInto w m c).calendar.day = s.calendar.day
     ∧ (s.processInto w m c).calendar.minute = s.calendar.minute
     ∧ (s.processInto w m c).calendar.strobeCount = s.calendar.strobeCount
     ∧ (s.processInto w m c).calendar.clockSet = s.calendar.clockSet
     ∧ (s.processInto w m c).calendar.specialDays = s.calendar.specialDays := by
  simp only [State.processInto]; repeat' split
  all_goals simp

/-- What a completed set leaves. -/
@[simp] theorem State.processSet_frame (s : State) (c : CompletedSet) :
    (s.processSet c).resetApplied = s.resetApplied ∧ (s.processSet c).released = s.released
     ∧ (s.processSet c).completed = s.completed ∧ (s.processSet c).timeNotices = s.timeNotices
     ∧ (s.processSet c).capture = s.capture ∧ (s.processSet c).pending = s.pending
     ∧ (s.processSet c).link.downlink = s.link.downlink ∧ (s.processSet c).link.commands = s.link.commands
     ∧ (s.processSet c).link.responses = s.link.responses
     ∧ (s.processSet c).link.responseInProgress = s.link.responseInProgress
     ∧ (s.processSet c).link.reportInProgress = s.link.reportInProgress
     ∧ (s.processSet c).link.paused = s.link.paused ∧ (s.processSet c).link.rotation = s.link.rotation
     ∧ (s.processSet c).link.uplink = s.link.uplink ∧ (s.processSet c).aligner.nextIndex = s.aligner.nextIndex
     ∧ (s.processSet c).aligner.openRange = s.aligner.openRange ∧ (s.processSet c).aligner.latest = s.aligner.latest
     ∧ (s.processSet c).aligner.restartPoint = s.aligner.restartPoint
     ∧ (s.processSet c).aligner.estimating = s.aligner.estimating ∧ (s.processSet c).calendar.day = s.calendar.day
     ∧ (s.processSet c).calendar.minute = s.calendar.minute
     ∧ (s.processSet c).calendar.strobeCount = s.calendar.strobeCount
     ∧ (s.processSet c).calendar.clockSet = s.calendar.clockSet
     ∧ (s.processSet c).calendar.specialDays = s.calendar.specialDays := by
  simp only [State.processSet]; repeat' split
  all_goals simp

/-- What the taking of SWITCH requests at an empty window leaves. -/
@[simp] theorem State.rebandEmpty_frame (s : State) :
    s.rebandEmpty.resetApplied = s.resetApplied ∧ s.rebandEmpty.lanes = s.lanes ∧ s.rebandEmpty.aligner = s.aligner
     ∧ s.rebandEmpty.released = s.released ∧ s.rebandEmpty.history = s.history ∧ s.rebandEmpty.completed = s.completed
     ∧ s.rebandEmpty.bank = s.bank ∧ s.rebandEmpty.calendar = s.calendar ∧ s.rebandEmpty.demand = s.demand
     ∧ s.rebandEmpty.credits = s.credits ∧ s.rebandEmpty.timeNotices = s.timeNotices ∧ s.rebandEmpty.tables = s.tables
     ∧ s.rebandEmpty.monitor = s.monitor ∧ s.rebandEmpty.link = s.link ∧ s.rebandEmpty.capture = s.capture
     ∧ s.rebandEmpty.checkers = s.checkers ∧ s.rebandEmpty.freeChoices = s.freeChoices ∧ s.rebandEmpty.pending =
     s.pending := by
  simp only [State.rebandEmpty]; repeat' split
  all_goals simp

/-- All that the taking of SWITCH requests at an empty window can do: nothing, or the window, still empty, carries the band in
force and no SWITCH request is outstanding. -/
theorem State.rebandEmpty_cases (s : State) :
    s.rebandEmpty = s ∨ ∃ w, s.engine.window = some w ∧ w.opening = none ∧ s.windowsRun = true
      ∧ s.rebandEmpty =
        { s with
          requests := s.requests.filter (fun c => decide (c ≠ .switch))
          engine := { s.engine with window := some { w with band := s.calendar.band } } } := by
  simp only [State.rebandEmpty]; split
  · exact .inl rfl
  · split
    · next w h hd => exact .inr ⟨w, h, hd.2.1, hd.1, rfl⟩
    · exact .inl rfl

/-- What the taking of a completed set leaves. -/
@[simp] theorem State.takeCompleted_frame (s : State) :
    (s.takeCompleted).resetApplied = s.resetApplied ∧ (s.takeCompleted).released = s.released
     ∧ (s.takeCompleted).timeNotices = s.timeNotices ∧ (s.takeCompleted).capture = s.capture
     ∧ (s.takeCompleted).pending = s.pending ∧ (s.takeCompleted).link.downlink = s.link.downlink
     ∧ (s.takeCompleted).link.commands = s.link.commands ∧ (s.takeCompleted).link.responses = s.link.responses
     ∧ (s.takeCompleted).link.responseInProgress = s.link.responseInProgress
     ∧ (s.takeCompleted).link.reportInProgress = s.link.reportInProgress
     ∧ (s.takeCompleted).link.paused = s.link.paused ∧ (s.takeCompleted).link.rotation = s.link.rotation
     ∧ (s.takeCompleted).link.uplink = s.link.uplink ∧ (s.takeCompleted).aligner.nextIndex = s.aligner.nextIndex
     ∧ (s.takeCompleted).aligner.openRange = s.aligner.openRange
     ∧ (s.takeCompleted).aligner.latest = s.aligner.latest
     ∧ (s.takeCompleted).aligner.restartPoint = s.aligner.restartPoint
     ∧ (s.takeCompleted).aligner.estimating = s.aligner.estimating ∧ (s.takeCompleted).calendar.day = s.calendar.day
     ∧ (s.takeCompleted).calendar.minute = s.calendar.minute
     ∧ (s.takeCompleted).calendar.strobeCount = s.calendar.strobeCount
     ∧ (s.takeCompleted).calendar.clockSet = s.calendar.clockSet
     ∧ (s.takeCompleted).calendar.specialDays = s.calendar.specialDays := by
  simp only [State.takeCompleted]; split <;> simp

/-- What a request that meets a window of zero sets leaves. -/
@[simp] theorem State.requestEmpty_frame (s : State) (w : Window) (c : ForcedCause) :
    (s.requestEmpty w c).resetApplied = s.resetApplied ∧ (s.requestEmpty w c).lanes = s.lanes
     ∧ (s.requestEmpty w c).aligner = s.aligner ∧ (s.requestEmpty w c).released = s.released
     ∧ (s.requestEmpty w c).history = s.history ∧ (s.requestEmpty w c).completed = s.completed
     ∧ (s.requestEmpty w c).requests = s.requests ∧ (s.requestEmpty w c).bank = s.bank
     ∧ (s.requestEmpty w c).calendar = s.calendar ∧ (s.requestEmpty w c).demand = s.demand
     ∧ (s.requestEmpty w c).timeNotices = s.timeNotices ∧ (s.requestEmpty w c).tables = s.tables
     ∧ (s.requestEmpty w c).monitor = s.monitor ∧ (s.requestEmpty w c).link = s.link
     ∧ (s.requestEmpty w c).capture = s.capture ∧ (s.requestEmpty w c).checkers = s.checkers
     ∧ (s.requestEmpty w c).freeChoices = s.freeChoices ∧ (s.requestEmpty w c).pending = s.pending := by
  simp only [State.requestEmpty]; split <;> simp

/-- What a close request leaves. -/
@[simp] theorem State.requestClose_frame (s : State) (c : ForcedCause) :
    (s.requestClose c).resetApplied = s.resetApplied ∧ (s.requestClose c).released = s.released
     ∧ (s.requestClose c).completed = s.completed ∧ (s.requestClose c).timeNotices = s.timeNotices
     ∧ (s.requestClose c).capture = s.capture ∧ (s.requestClose c).pending = s.pending
     ∧ (s.requestClose c).link.downlink = s.link.downlink ∧ (s.requestClose c).link.commands = s.link.commands
     ∧ (s.requestClose c).link.responses = s.link.responses
     ∧ (s.requestClose c).link.responseInProgress = s.link.responseInProgress
     ∧ (s.requestClose c).link.reportInProgress = s.link.reportInProgress
     ∧ (s.requestClose c).link.paused = s.link.paused ∧ (s.requestClose c).link.rotation = s.link.rotation
     ∧ (s.requestClose c).link.uplink = s.link.uplink ∧ (s.requestClose c).aligner.nextIndex = s.aligner.nextIndex
     ∧ (s.requestClose c).aligner.openRange = s.aligner.openRange
     ∧ (s.requestClose c).aligner.latest = s.aligner.latest
     ∧ (s.requestClose c).aligner.restartPoint = s.aligner.restartPoint
     ∧ (s.requestClose c).aligner.estimating = s.aligner.estimating
     ∧ (s.requestClose c).calendar.day = s.calendar.day ∧ (s.requestClose c).calendar.minute = s.calendar.minute
     ∧ (s.requestClose c).calendar.strobeCount = s.calendar.strobeCount
     ∧ (s.requestClose c).calendar.clockSet = s.calendar.clockSet
     ∧ (s.requestClose c).calendar.specialDays = s.calendar.specialDays := by
  simp only [State.requestClose]; repeat' split
  all_goals simp

/-- What the taking of a close request leaves. -/
@[simp] theorem State.takeRequest_frame (s : State) (c : ForcedCause) :
    (s.takeRequest c).resetApplied = s.resetApplied ∧ (s.takeRequest c).released = s.released
     ∧ (s.takeRequest c).completed = s.completed ∧ (s.takeRequest c).timeNotices = s.timeNotices
     ∧ (s.takeRequest c).capture = s.capture ∧ (s.takeRequest c).pending = s.pending
     ∧ (s.takeRequest c).link.downlink = s.link.downlink ∧ (s.takeRequest c).link.commands = s.link.commands
     ∧ (s.takeRequest c).link.responses = s.link.responses
     ∧ (s.takeRequest c).link.responseInProgress = s.link.responseInProgress
     ∧ (s.takeRequest c).link.reportInProgress = s.link.reportInProgress
     ∧ (s.takeRequest c).link.paused = s.link.paused ∧ (s.takeRequest c).link.rotation = s.link.rotation
     ∧ (s.takeRequest c).link.uplink = s.link.uplink ∧ (s.takeRequest c).aligner.nextIndex = s.aligner.nextIndex
     ∧ (s.takeRequest c).aligner.openRange = s.aligner.openRange
     ∧ (s.takeRequest c).aligner.latest = s.aligner.latest
     ∧ (s.takeRequest c).aligner.restartPoint = s.aligner.restartPoint
     ∧ (s.takeRequest c).aligner.estimating = s.aligner.estimating ∧ (s.takeRequest c).calendar.day = s.calendar.day
     ∧ (s.takeRequest c).calendar.minute = s.calendar.minute
     ∧ (s.takeRequest c).calendar.strobeCount = s.calendar.strobeCount
     ∧ (s.takeRequest c).calendar.clockSet = s.calendar.clockSet
     ∧ (s.takeRequest c).calendar.specialDays = s.calendar.specialDays := by
  simp only [State.takeRequest]; split <;> simp

/-- What the start of the watchdog leaves. -/
@[simp] theorem State.startWatchdog_frame (s : State) :
    (s.startWatchdog).resetApplied = s.resetApplied ∧ (s.startWatchdog).lanes = s.lanes
     ∧ (s.startWatchdog).aligner = s.aligner ∧ (s.startWatchdog).released = s.released
     ∧ (s.startWatchdog).history = s.history ∧ (s.startWatchdog).completed = s.completed
     ∧ (s.startWatchdog).engine = s.engine ∧ (s.startWatchdog).requests = s.requests
     ∧ (s.startWatchdog).bank = s.bank ∧ (s.startWatchdog).calendar = s.calendar
     ∧ (s.startWatchdog).demand = s.demand ∧ (s.startWatchdog).credits = s.credits
     ∧ (s.startWatchdog).timeNotices = s.timeNotices ∧ (s.startWatchdog).tables = s.tables
     ∧ (s.startWatchdog).link = s.link ∧ (s.startWatchdog).capture = s.capture
     ∧ (s.startWatchdog).checkers = s.checkers ∧ (s.startWatchdog).freeChoices = s.freeChoices
     ∧ (s.startWatchdog).pending = s.pending := by
  simp [State.startWatchdog]

/-- What the dropping of hand-overs leaves. -/
@[simp] theorem State.dropHandOvers_frame (s : State) :
    (s.dropHandOvers).resetApplied = s.resetApplied ∧ (s.dropHandOvers).lanes = s.lanes
     ∧ (s.dropHandOvers).aligner = s.aligner ∧ (s.dropHandOvers).history = s.history
     ∧ (s.dropHandOvers).engine = s.engine ∧ (s.dropHandOvers).bank = s.bank
     ∧ (s.dropHandOvers).calendar = s.calendar ∧ (s.dropHandOvers).demand = s.demand
     ∧ (s.dropHandOvers).tables = s.tables ∧ (s.dropHandOvers).monitor = s.monitor ∧ (s.dropHandOvers).link = s.link
     ∧ (s.dropHandOvers).capture = s.capture ∧ (s.dropHandOvers).checkers = s.checkers
     ∧ (s.dropHandOvers).freeChoices = s.freeChoices ∧ (s.dropHandOvers).pending = s.pending := by
  simp [State.dropHandOvers]

/-- What the entry to FAILSAFE leaves. -/
@[simp] theorem State.enterFailsafe_frame (s : State) :
    (s.enterFailsafe).resetApplied = s.resetApplied ∧ (s.enterFailsafe).lanes = s.lanes
     ∧ (s.enterFailsafe).released = s.released ∧ (s.enterFailsafe).history = s.history
     ∧ (s.enterFailsafe).completed = s.completed ∧ (s.enterFailsafe).bank = s.bank
     ∧ (s.enterFailsafe).demand = s.demand ∧ (s.enterFailsafe).credits = s.credits
     ∧ (s.enterFailsafe).timeNotices = s.timeNotices ∧ (s.enterFailsafe).checkers = s.checkers
     ∧ (s.enterFailsafe).freeChoices = s.freeChoices ∧ (s.enterFailsafe).pending = s.pending
     ∧ (s.enterFailsafe).link.downlink = s.link.downlink ∧ (s.enterFailsafe).link.commands = s.link.commands
     ∧ (s.enterFailsafe).link.responses = s.link.responses
     ∧ (s.enterFailsafe).link.responseInProgress = s.link.responseInProgress
     ∧ (s.enterFailsafe).link.reports = s.link.reports
     ∧ (s.enterFailsafe).link.reportInProgress = s.link.reportInProgress
     ∧ (s.enterFailsafe).link.rotation = s.link.rotation ∧ (s.enterFailsafe).link.uplink = s.link.uplink
     ∧ (s.enterFailsafe).aligner.nextIndex = s.aligner.nextIndex
     ∧ (s.enterFailsafe).aligner.openRange = s.aligner.openRange
     ∧ (s.enterFailsafe).aligner.latest = s.aligner.latest
     ∧ (s.enterFailsafe).aligner.restartPoint = s.aligner.restartPoint
     ∧ (s.enterFailsafe).aligner.windowClosed = s.aligner.windowClosed
     ∧ (s.enterFailsafe).aligner.directionReversed = s.aligner.directionReversed
     ∧ (s.enterFailsafe).aligner.cycles = s.aligner.cycles
     ∧ (s.enterFailsafe).aligner.estimating = s.aligner.estimating ∧ (s.enterFailsafe).calendar.day = s.calendar.day
     ∧ (s.enterFailsafe).calendar.minute = s.calendar.minute
     ∧ (s.enterFailsafe).calendar.strobeCount = s.calendar.strobeCount
     ∧ (s.enterFailsafe).calendar.clockSet = s.calendar.clockSet
     ∧ (s.enterFailsafe).calendar.specialDays = s.calendar.specialDays := by
  simp only [State.enterFailsafe]; split <;> simp

/-- What an expiry, where it is due, leaves. -/
@[simp] theorem State.takeExpiry_frame (s : State) :
    (s.takeExpiry).resetApplied = s.resetApplied ∧ (s.takeExpiry).lanes = s.lanes
     ∧ (s.takeExpiry).released = s.released ∧ (s.takeExpiry).history = s.history
     ∧ (s.takeExpiry).completed = s.completed ∧ (s.takeExpiry).bank = s.bank ∧ (s.takeExpiry).demand = s.demand
     ∧ (s.takeExpiry).credits = s.credits ∧ (s.takeExpiry).timeNotices = s.timeNotices
     ∧ (s.takeExpiry).checkers = s.checkers ∧ (s.takeExpiry).freeChoices = s.freeChoices
     ∧ (s.takeExpiry).pending = s.pending ∧ (s.takeExpiry).link.downlink = s.link.downlink
     ∧ (s.takeExpiry).link.commands = s.link.commands ∧ (s.takeExpiry).link.responses = s.link.responses
     ∧ (s.takeExpiry).link.responseInProgress = s.link.responseInProgress
     ∧ (s.takeExpiry).link.reports = s.link.reports ∧ (s.takeExpiry).link.reportInProgress = s.link.reportInProgress
     ∧ (s.takeExpiry).link.rotation = s.link.rotation ∧ (s.takeExpiry).link.uplink = s.link.uplink
     ∧ (s.takeExpiry).aligner.nextIndex = s.aligner.nextIndex
     ∧ (s.takeExpiry).aligner.openRange = s.aligner.openRange ∧ (s.takeExpiry).aligner.latest = s.aligner.latest
     ∧ (s.takeExpiry).aligner.restartPoint = s.aligner.restartPoint
     ∧ (s.takeExpiry).aligner.windowClosed = s.aligner.windowClosed
     ∧ (s.takeExpiry).aligner.directionReversed = s.aligner.directionReversed
     ∧ (s.takeExpiry).aligner.cycles = s.aligner.cycles ∧ (s.takeExpiry).aligner.estimating = s.aligner.estimating
     ∧ (s.takeExpiry).calendar.day = s.calendar.day ∧ (s.takeExpiry).calendar.minute = s.calendar.minute
     ∧ (s.takeExpiry).calendar.strobeCount = s.calendar.strobeCount
     ∧ (s.takeExpiry).calendar.clockSet = s.calendar.clockSet
     ∧ (s.takeExpiry).calendar.specialDays = s.calendar.specialDays := by
  simp only [State.takeExpiry]; split <;> simp

/-- What START leaves. -/
@[simp] theorem State.startMetering_frame (s : State) :
    (s.startMetering).resetApplied = s.resetApplied ∧ (s.startMetering).lanes = s.lanes
     ∧ (s.startMetering).released = s.released ∧ (s.startMetering).history = s.history
     ∧ (s.startMetering).completed = s.completed ∧ (s.startMetering).bank = s.bank
     ∧ (s.startMetering).tables = s.tables ∧ (s.startMetering).link = s.link ∧ (s.startMetering).capture = s.capture
     ∧ (s.startMetering).checkers = s.checkers ∧ (s.startMetering).freeChoices = s.freeChoices
     ∧ (s.startMetering).pending = s.pending ∧ (s.startMetering).aligner.nextIndex = s.aligner.nextIndex
     ∧ (s.startMetering).aligner.openRange = s.aligner.openRange
     ∧ (s.startMetering).aligner.latest = s.aligner.latest
     ∧ (s.startMetering).aligner.restartPoint = s.aligner.restartPoint
     ∧ (s.startMetering).aligner.windowClosed = s.aligner.windowClosed
     ∧ (s.startMetering).aligner.directionReversed = s.aligner.directionReversed
     ∧ (s.startMetering).aligner.cycles = s.aligner.cycles
     ∧ (s.startMetering).aligner.estimating = s.aligner.estimating ∧ (s.startMetering).calendar.day = s.calendar.day
     ∧ (s.startMetering).calendar.minute = s.calendar.minute
     ∧ (s.startMetering).calendar.strobeCount = s.calendar.strobeCount
     ∧ (s.startMetering).calendar.clockSet = s.calendar.clockSet
     ∧ (s.startMetering).calendar.specialDays = s.calendar.specialDays := by
  simp only [State.startMetering]; split <;> simp

/-- What the entry to CONFIG leaves. -/
@[simp] theorem State.enterConfig_frame (s : State) :
    (s.enterConfig).resetApplied = s.resetApplied ∧ (s.enterConfig).lanes = s.lanes
     ∧ (s.enterConfig).aligner = s.aligner ∧ (s.enterConfig).history = s.history ∧ (s.enterConfig).bank = s.bank
     ∧ (s.enterConfig).calendar = s.calendar ∧ (s.enterConfig).tables = s.tables
     ∧ (s.enterConfig).capture = s.capture ∧ (s.enterConfig).checkers = s.checkers
     ∧ (s.enterConfig).freeChoices = s.freeChoices ∧ (s.enterConfig).pending = s.pending
     ∧ (s.enterConfig).link.downlink = s.link.downlink ∧ (s.enterConfig).link.commands = s.link.commands
     ∧ (s.enterConfig).link.responses = s.link.responses
     ∧ (s.enterConfig).link.responseInProgress = s.link.responseInProgress
     ∧ (s.enterConfig).link.reports = s.link.reports
     ∧ (s.enterConfig).link.reportInProgress = s.link.reportInProgress ∧ (s.enterConfig).link.paused = s.link.paused
     ∧ (s.enterConfig).link.rotation = s.link.rotation ∧ (s.enterConfig).link.uplink = s.link.uplink := by
  simp [State.enterConfig]

/-- What STOP leaves. -/
@[simp] theorem State.stopMetering_frame (s : State) :
    (s.stopMetering).resetApplied = s.resetApplied ∧ (s.stopMetering).capture = s.capture
     ∧ (s.stopMetering).pending = s.pending ∧ (s.stopMetering).link.downlink = s.link.downlink
     ∧ (s.stopMetering).link.commands = s.link.commands ∧ (s.stopMetering).link.responses = s.link.responses
     ∧ (s.stopMetering).link.responseInProgress = s.link.responseInProgress
     ∧ (s.stopMetering).link.reportInProgress = s.link.reportInProgress
     ∧ (s.stopMetering).link.paused = s.link.paused ∧ (s.stopMetering).link.rotation = s.link.rotation
     ∧ (s.stopMetering).link.uplink = s.link.uplink ∧ (s.stopMetering).aligner.nextIndex = s.aligner.nextIndex
     ∧ (s.stopMetering).aligner.openRange = s.aligner.openRange ∧ (s.stopMetering).aligner.latest = s.aligner.latest
     ∧ (s.stopMetering).aligner.restartPoint = s.aligner.restartPoint
     ∧ (s.stopMetering).aligner.estimating = s.aligner.estimating ∧ (s.stopMetering).calendar.day = s.calendar.day
     ∧ (s.stopMetering).calendar.minute = s.calendar.minute
     ∧ (s.stopMetering).calendar.strobeCount = s.calendar.strobeCount
     ∧ (s.stopMetering).calendar.clockSet = s.calendar.clockSet
     ∧ (s.stopMetering).calendar.specialDays = s.calendar.specialDays := by
  simp only [State.stopMetering]; repeat' split
  all_goals simp

/-- What RESUME leaves. -/
@[simp] theorem State.resumeMetering_frame (s : State) :
    (s.resumeMetering).resetApplied = s.resetApplied ∧ (s.resumeMetering).lanes = s.lanes
     ∧ (s.resumeMetering).released = s.released ∧ (s.resumeMetering).history = s.history
     ∧ (s.resumeMetering).completed = s.completed ∧ (s.resumeMetering).bank = s.bank
     ∧ (s.resumeMetering).demand = s.demand ∧ (s.resumeMetering).credits = s.credits
     ∧ (s.resumeMetering).timeNotices = s.timeNotices ∧ (s.resumeMetering).tables = s.tables
     ∧ (s.resumeMetering).capture = s.capture ∧ (s.resumeMetering).checkers = s.checkers
     ∧ (s.resumeMetering).freeChoices = s.freeChoices ∧ (s.resumeMetering).pending = s.pending
     ∧ (s.resumeMetering).link.downlink = s.link.downlink ∧ (s.resumeMetering).link.commands = s.link.commands
     ∧ (s.resumeMetering).link.responses = s.link.responses
     ∧ (s.resumeMetering).link.responseInProgress = s.link.responseInProgress
     ∧ (s.resumeMetering).link.reports = s.link.reports
     ∧ (s.resumeMetering).link.reportInProgress = s.link.reportInProgress
     ∧ (s.resumeMetering).link.paused = s.link.paused ∧ (s.resumeMetering).link.rotation = s.link.rotation
     ∧ (s.resumeMetering).link.uplink = s.link.uplink ∧ (s.resumeMetering).aligner.nextIndex = s.aligner.nextIndex
     ∧ (s.resumeMetering).aligner.openRange = s.aligner.openRange
     ∧ (s.resumeMetering).aligner.latest = s.aligner.latest
     ∧ (s.resumeMetering).aligner.restartPoint = s.aligner.restartPoint
     ∧ (s.resumeMetering).aligner.windowClosed = s.aligner.windowClosed
     ∧ (s.resumeMetering).aligner.directionReversed = s.aligner.directionReversed
     ∧ (s.resumeMetering).aligner.cycles = s.aligner.cycles
     ∧ (s.resumeMetering).aligner.estimating = s.aligner.estimating
     ∧ (s.resumeMetering).calendar.day = s.calendar.day ∧ (s.resumeMetering).calendar.minute = s.calendar.minute
     ∧ (s.resumeMetering).calendar.strobeCount = s.calendar.strobeCount
     ∧ (s.resumeMetering).calendar.clockSet = s.calendar.clockSet
     ∧ (s.resumeMetering).calendar.specialDays = s.calendar.specialDays := by
  simp [State.resumeMetering]

/-- What ENGINE RESET leaves. -/
@[simp] theorem State.engineReset_frame (s : State) :
    (s.engineReset).resetApplied = s.resetApplied ∧ (s.engineReset).bank = s.bank
     ∧ (s.engineReset).freeChoices = s.freeChoices ∧ (s.engineReset).pending = s.pending
     ∧ (s.engineReset).link.downlink = s.link.downlink ∧ (s.engineReset).link.commands = s.link.commands
     ∧ (s.engineReset).link.responses = s.link.responses
     ∧ (s.engineReset).link.responseInProgress = s.link.responseInProgress
     ∧ (s.engineReset).link.rotation = s.link.rotation ∧ (s.engineReset).link.uplink = s.link.uplink
     ∧ (s.engineReset).aligner.nextIndex = s.aligner.nextIndex ∧ (s.engineReset).aligner.latest = s.aligner.latest
     ∧ (s.engineReset).calendar.day = s.calendar.day ∧ (s.engineReset).calendar.minute = s.calendar.minute
     ∧ (s.engineReset).calendar.strobeCount = s.calendar.strobeCount
     ∧ (s.engineReset).calendar.clockSet = s.calendar.clockSet
     ∧ (s.engineReset).calendar.specialDays = s.calendar.specialDays := by
  simp [State.engineReset, State.resetMonitor, Aligner.reset, Link.reset]

/-! ### Steps that come about at once -/

/-- What the end of a quality period, where it is due, leaves. -/
@[simp] theorem State.takePeriodEnd_frame (s : State) (x : Phase) :
    (s.takePeriodEnd x).resetApplied = s.resetApplied ∧ (s.takePeriodEnd x).released = s.released
     ∧ (s.takePeriodEnd x).history = s.history ∧ (s.takePeriodEnd x).completed = s.completed
     ∧ (s.takePeriodEnd x).engine = s.engine ∧ (s.takePeriodEnd x).requests = s.requests
     ∧ (s.takePeriodEnd x).bank = s.bank ∧ (s.takePeriodEnd x).calendar = s.calendar
     ∧ (s.takePeriodEnd x).demand = s.demand ∧ (s.takePeriodEnd x).credits = s.credits
     ∧ (s.takePeriodEnd x).timeNotices = s.timeNotices ∧ (s.takePeriodEnd x).tables = s.tables
     ∧ (s.takePeriodEnd x).capture = s.capture ∧ (s.takePeriodEnd x).checkers = s.checkers
     ∧ (s.takePeriodEnd x).freeChoices = s.freeChoices ∧ (s.takePeriodEnd x).pending = s.pending
     ∧ (s.takePeriodEnd x).link.downlink = s.link.downlink ∧ (s.takePeriodEnd x).link.commands = s.link.commands
     ∧ (s.takePeriodEnd x).link.responses = s.link.responses
     ∧ (s.takePeriodEnd x).link.responseInProgress = s.link.responseInProgress
     ∧ (s.takePeriodEnd x).link.reports = s.link.reports
     ∧ (s.takePeriodEnd x).link.reportInProgress = s.link.reportInProgress
     ∧ (s.takePeriodEnd x).link.paused = s.link.paused ∧ (s.takePeriodEnd x).link.rotation = s.link.rotation
     ∧ (s.takePeriodEnd x).link.uplink = s.link.uplink ∧ (s.takePeriodEnd x).aligner.nextIndex = s.aligner.nextIndex
     ∧ (s.takePeriodEnd x).aligner.openRange = s.aligner.openRange
     ∧ (s.takePeriodEnd x).aligner.latest = s.aligner.latest
     ∧ (s.takePeriodEnd x).aligner.restartPoint = s.aligner.restartPoint
     ∧ (s.takePeriodEnd x).aligner.windowClosed = s.aligner.windowClosed
     ∧ (s.takePeriodEnd x).aligner.bandChanged = s.aligner.bandChanged
     ∧ (s.takePeriodEnd x).aligner.directionReversed = s.aligner.directionReversed
     ∧ (s.takePeriodEnd x).aligner.estimating = s.aligner.estimating := by
  unfold State.takePeriodEnd; split <;> simp

/-- What the end of a capture block, where it is due, leaves. -/
@[simp] theorem State.takeCaptureTerminal_frame (s : State) :
    (s.takeCaptureTerminal).resetApplied = s.resetApplied ∧ (s.takeCaptureTerminal).lanes = s.lanes
     ∧ (s.takeCaptureTerminal).aligner = s.aligner ∧ (s.takeCaptureTerminal).released = s.released
     ∧ (s.takeCaptureTerminal).history = s.history ∧ (s.takeCaptureTerminal).completed = s.completed
     ∧ (s.takeCaptureTerminal).engine = s.engine ∧ (s.takeCaptureTerminal).requests = s.requests
     ∧ (s.takeCaptureTerminal).bank = s.bank ∧ (s.takeCaptureTerminal).calendar = s.calendar
     ∧ (s.takeCaptureTerminal).demand = s.demand ∧ (s.takeCaptureTerminal).credits = s.credits
     ∧ (s.takeCaptureTerminal).timeNotices = s.timeNotices ∧ (s.takeCaptureTerminal).tables = s.tables
     ∧ (s.takeCaptureTerminal).monitor = s.monitor ∧ (s.takeCaptureTerminal).link = s.link
     ∧ (s.takeCaptureTerminal).checkers = s.checkers ∧ (s.takeCaptureTerminal).freeChoices = s.freeChoices
     ∧ (s.takeCaptureTerminal).pending = s.pending := by
  unfold State.takeCaptureTerminal; split <;> simp

/-- What the end of a timebase, where it is due, leaves. -/
@[simp] theorem State.takeTimebaseEnd_frame (s : State) (x : Phase) :
    (s.takeTimebaseEnd x).resetApplied = s.resetApplied ∧ (s.takeTimebaseEnd x).lanes = s.lanes
     ∧ (s.takeTimebaseEnd x).aligner = s.aligner ∧ (s.takeTimebaseEnd x).released = s.released
     ∧ (s.takeTimebaseEnd x).history = s.history ∧ (s.takeTimebaseEnd x).completed = s.completed
     ∧ (s.takeTimebaseEnd x).engine = s.engine ∧ (s.takeTimebaseEnd x).requests = s.requests
     ∧ (s.takeTimebaseEnd x).bank = s.bank ∧ (s.takeTimebaseEnd x).calendar = s.calendar
     ∧ (s.takeTimebaseEnd x).demand = s.demand ∧ (s.takeTimebaseEnd x).credits = s.credits
     ∧ (s.takeTimebaseEnd x).timeNotices = s.timeNotices ∧ (s.takeTimebaseEnd x).tables = s.tables
     ∧ (s.takeTimebaseEnd x).capture = s.capture ∧ (s.takeTimebaseEnd x).freeChoices = s.freeChoices
     ∧ (s.takeTimebaseEnd x).pending = s.pending ∧ (s.takeTimebaseEnd x).link.downlink = s.link.downlink
     ∧ (s.takeTimebaseEnd x).link.commands = s.link.commands
     ∧ (s.takeTimebaseEnd x).link.responses = s.link.responses
     ∧ (s.takeTimebaseEnd x).link.responseInProgress = s.link.responseInProgress
     ∧ (s.takeTimebaseEnd x).link.reports = s.link.reports
     ∧ (s.takeTimebaseEnd x).link.reportInProgress = s.link.reportInProgress
     ∧ (s.takeTimebaseEnd x).link.paused = s.link.paused ∧ (s.takeTimebaseEnd x).link.rotation = s.link.rotation
     ∧ (s.takeTimebaseEnd x).link.uplink = s.link.uplink := by
  unfold State.takeTimebaseEnd; split <;> simp

/-- The clock's advance leaves the clock-set state, the band in force and its source. -/
@[simp] theorem Calendar.advance_frame (c : Calendar) :
    c.advance.clockSet = c.clockSet ∧ c.advance.band = c.band ∧ c.advance.source = c.source
      ∧ c.advance.strobeCount = 0 := by
  simp only [Calendar.advance]; repeat' split
  all_goals simp [Calendar.prune]

/-- What a minute rollover leaves. -/
@[simp] theorem State.rollover_frame (s : State) :
    (s.rollover).resetApplied = s.resetApplied ∧ (s.rollover).lanes = s.lanes ∧ (s.rollover).released = s.released
     ∧ (s.rollover).history = s.history ∧ (s.rollover).completed = s.completed ∧ (s.rollover).engine = s.engine
     ∧ (s.rollover).bank = s.bank ∧ (s.rollover).credits = s.credits ∧ (s.rollover).timeNotices = s.timeNotices
     ∧ (s.rollover).tables = s.tables ∧ (s.rollover).monitor = s.monitor ∧ (s.rollover).link = s.link
     ∧ (s.rollover).capture = s.capture ∧ (s.rollover).checkers = s.checkers
     ∧ (s.rollover).freeChoices = s.freeChoices ∧ (s.rollover).pending = s.pending
     ∧ (s.rollover).aligner.nextIndex = s.aligner.nextIndex ∧ (s.rollover).aligner.openRange = s.aligner.openRange
     ∧ (s.rollover).aligner.latest = s.aligner.latest ∧ (s.rollover).aligner.restartPoint = s.aligner.restartPoint
     ∧ (s.rollover).aligner.windowClosed = s.aligner.windowClosed
     ∧ (s.rollover).aligner.directionReversed = s.aligner.directionReversed
     ∧ (s.rollover).aligner.cycles = s.aligner.cycles ∧ (s.rollover).aligner.estimating = s.aligner.estimating
     ∧ (s.rollover).calendar.clockSet = s.calendar.clockSet := by
  simp [State.rollover]

/-- What a minute rollover, where it is due, leaves. -/
@[simp] theorem State.takeRollover_frame (s : State) :
    (s.takeRollover).resetApplied = s.resetApplied ∧ (s.takeRollover).lanes = s.lanes
     ∧ (s.takeRollover).released = s.released ∧ (s.takeRollover).history = s.history
     ∧ (s.takeRollover).completed = s.completed ∧ (s.takeRollover).engine = s.engine
     ∧ (s.takeRollover).bank = s.bank ∧ (s.takeRollover).credits = s.credits
     ∧ (s.takeRollover).timeNotices = s.timeNotices ∧ (s.takeRollover).tables = s.tables
     ∧ (s.takeRollover).monitor = s.monitor ∧ (s.takeRollover).link = s.link ∧ (s.takeRollover).capture = s.capture
     ∧ (s.takeRollover).checkers = s.checkers ∧ (s.takeRollover).freeChoices = s.freeChoices
     ∧ (s.takeRollover).pending = s.pending ∧ (s.takeRollover).aligner.nextIndex = s.aligner.nextIndex
     ∧ (s.takeRollover).aligner.openRange = s.aligner.openRange ∧ (s.takeRollover).aligner.latest = s.aligner.latest
     ∧ (s.takeRollover).aligner.restartPoint = s.aligner.restartPoint
     ∧ (s.takeRollover).aligner.windowClosed = s.aligner.windowClosed
     ∧ (s.takeRollover).aligner.directionReversed = s.aligner.directionReversed
     ∧ (s.takeRollover).aligner.cycles = s.aligner.cycles
     ∧ (s.takeRollover).aligner.estimating = s.aligner.estimating
     ∧ (s.takeRollover).calendar.clockSet = s.calendar.clockSet := by
  unfold State.takeRollover; split <;> simp

/-- What the steps that come about at once leave. -/
@[simp] theorem State.settle_frame (s : State) :
    (s.settle).resetApplied = s.resetApplied ∧ (s.settle).released = s.released ∧ (s.settle).history = s.history
     ∧ (s.settle).completed = s.completed ∧ (s.settle).engine = s.engine ∧ (s.settle).bank = s.bank
     ∧ (s.settle).credits = s.credits ∧ (s.settle).timeNotices = s.timeNotices ∧ (s.settle).tables = s.tables
     ∧ (s.settle).freeChoices = s.freeChoices ∧ (s.settle).pending = s.pending
     ∧ (s.settle).link.downlink = s.link.downlink ∧ (s.settle).link.commands = s.link.commands
     ∧ (s.settle).link.responses = s.link.responses ∧ (s.settle).link.responseInProgress = s.link.responseInProgress
     ∧ (s.settle).link.reports = s.link.reports ∧ (s.settle).link.reportInProgress = s.link.reportInProgress
     ∧ (s.settle).link.paused = s.link.paused ∧ (s.settle).link.rotation = s.link.rotation
     ∧ (s.settle).link.uplink = s.link.uplink ∧ (s.settle).aligner.nextIndex = s.aligner.nextIndex
     ∧ (s.settle).aligner.openRange = s.aligner.openRange ∧ (s.settle).aligner.latest = s.aligner.latest
     ∧ (s.settle).aligner.restartPoint = s.aligner.restartPoint
     ∧ (s.settle).aligner.windowClosed = s.aligner.windowClosed
     ∧ (s.settle).aligner.directionReversed = s.aligner.directionReversed
     ∧ (s.settle).aligner.estimating = s.aligner.estimating ∧ (s.settle).calendar.clockSet = s.calendar.clockSet := by
  simp [State.settle]

/-- What a release with the quality periods it ends leaves. -/
@[simp] theorem State.release_frame (s : State) :
    (s.release).resetApplied = s.resetApplied ∧ (s.release).history = s.history
     ∧ (s.release).completed = s.completed ∧ (s.release).engine = s.engine ∧ (s.release).requests = s.requests
     ∧ (s.release).bank = s.bank ∧ (s.release).calendar = s.calendar ∧ (s.release).demand = s.demand
     ∧ (s.release).credits = s.credits ∧ (s.release).timeNotices = s.timeNotices ∧ (s.release).tables = s.tables
     ∧ (s.release).capture = s.capture ∧ (s.release).checkers = s.checkers ∧ (s.release).freeChoices = s.freeChoices
     ∧ (s.release).pending = s.pending ∧ (s.release).link.downlink = s.link.downlink
     ∧ (s.release).link.commands = s.link.commands ∧ (s.release).link.responses = s.link.responses
     ∧ (s.release).link.responseInProgress = s.link.responseInProgress ∧ (s.release).link.reports = s.link.reports
     ∧ (s.release).link.reportInProgress = s.link.reportInProgress ∧ (s.release).link.paused = s.link.paused
     ∧ (s.release).link.rotation = s.link.rotation ∧ (s.release).link.uplink = s.link.uplink
     ∧ (s.release).aligner.nextIndex = s.aligner.nextIndex ∧ (s.release).aligner.latest = s.aligner.latest
     ∧ (s.release).aligner.restartPoint = s.aligner.restartPoint := by
  simp [State.release]

/-! ### Link port -/

/-- What an accepted command frame leaves. -/
@[simp] theorem State.queueCommand_frame (s : State) (p : List Byte) :
    (s.queueCommand p).resetApplied = s.resetApplied ∧ (s.queueCommand p).lanes = s.lanes
     ∧ (s.queueCommand p).aligner = s.aligner ∧ (s.queueCommand p).released = s.released
     ∧ (s.queueCommand p).history = s.history ∧ (s.queueCommand p).completed = s.completed
     ∧ (s.queueCommand p).engine = s.engine ∧ (s.queueCommand p).requests = s.requests
     ∧ (s.queueCommand p).bank = s.bank ∧ (s.queueCommand p).calendar = s.calendar
     ∧ (s.queueCommand p).demand = s.demand ∧ (s.queueCommand p).credits = s.credits
     ∧ (s.queueCommand p).timeNotices = s.timeNotices ∧ (s.queueCommand p).tables = s.tables
     ∧ (s.queueCommand p).capture = s.capture ∧ (s.queueCommand p).checkers = s.checkers
     ∧ (s.queueCommand p).freeChoices = s.freeChoices ∧ (s.queueCommand p).pending = s.pending
     ∧ (s.queueCommand p).link.downlink = s.link.downlink ∧ (s.queueCommand p).link.responses = s.link.responses
     ∧ (s.queueCommand p).link.responseInProgress = s.link.responseInProgress
     ∧ (s.queueCommand p).link.reports = s.link.reports
     ∧ (s.queueCommand p).link.reportInProgress = s.link.reportInProgress
     ∧ (s.queueCommand p).link.urgent = s.link.urgent ∧ (s.queueCommand p).link.paused = s.link.paused
     ∧ (s.queueCommand p).link.rotation = s.link.rotation ∧ (s.queueCommand p).link.uplink = s.link.uplink := by
  simp [State.queueCommand]

/-- What a good COMMAND frame leaves. -/
@[simp] theorem State.acceptCommand_frame (s : State) (p : List Byte) :
    (s.acceptCommand p).resetApplied = s.resetApplied ∧ (s.acceptCommand p).lanes = s.lanes
     ∧ (s.acceptCommand p).released = s.released ∧ (s.acceptCommand p).history = s.history
     ∧ (s.acceptCommand p).completed = s.completed ∧ (s.acceptCommand p).bank = s.bank
     ∧ (s.acceptCommand p).demand = s.demand ∧ (s.acceptCommand p).credits = s.credits
     ∧ (s.acceptCommand p).timeNotices = s.timeNotices ∧ (s.acceptCommand p).checkers = s.checkers
     ∧ (s.acceptCommand p).freeChoices = s.freeChoices ∧ (s.acceptCommand p).pending = s.pending
     ∧ (s.acceptCommand p).link.downlink = s.link.downlink ∧ (s.acceptCommand p).link.responses = s.link.responses
     ∧ (s.acceptCommand p).link.responseInProgress = s.link.responseInProgress
     ∧ (s.acceptCommand p).link.reports = s.link.reports
     ∧ (s.acceptCommand p).link.reportInProgress = s.link.reportInProgress
     ∧ (s.acceptCommand p).link.rotation = s.link.rotation ∧ (s.acceptCommand p).link.uplink = s.link.uplink
     ∧ (s.acceptCommand p).aligner.nextIndex = s.aligner.nextIndex
     ∧ (s.acceptCommand p).aligner.openRange = s.aligner.openRange
     ∧ (s.acceptCommand p).aligner.latest = s.aligner.latest
     ∧ (s.acceptCommand p).aligner.restartPoint = s.aligner.restartPoint
     ∧ (s.acceptCommand p).aligner.windowClosed = s.aligner.windowClosed
     ∧ (s.acceptCommand p).aligner.directionReversed = s.aligner.directionReversed
     ∧ (s.acceptCommand p).aligner.cycles = s.aligner.cycles
     ∧ (s.acceptCommand p).aligner.estimating = s.aligner.estimating
     ∧ (s.acceptCommand p).calendar.day = s.calendar.day ∧ (s.acceptCommand p).calendar.minute = s.calendar.minute
     ∧ (s.acceptCommand p).calendar.strobeCount = s.calendar.strobeCount
     ∧ (s.acceptCommand p).calendar.clockSet = s.calendar.clockSet
     ∧ (s.acceptCommand p).calendar.specialDays = s.calendar.specialDays := by
  simp only [State.acceptCommand]; split <;> simp

/-- What the judgement of a downlink frame leaves. -/
@[simp] theorem State.judgeDownlink_frame (s : State) (f : LineFrame) :
    (s.judgeDownlink f).resetApplied = s.resetApplied ∧ (s.judgeDownlink f).lanes = s.lanes
     ∧ (s.judgeDownlink f).released = s.released ∧ (s.judgeDownlink f).history = s.history
     ∧ (s.judgeDownlink f).completed = s.completed ∧ (s.judgeDownlink f).bank = s.bank
     ∧ (s.judgeDownlink f).demand = s.demand ∧ (s.judgeDownlink f).credits = s.credits
     ∧ (s.judgeDownlink f).timeNotices = s.timeNotices ∧ (s.judgeDownlink f).checkers = s.checkers
     ∧ (s.judgeDownlink f).freeChoices = s.freeChoices ∧ (s.judgeDownlink f).pending = s.pending
     ∧ (s.judgeDownlink f).link.downlink = s.link.downlink ∧ (s.judgeDownlink f).link.responses = s.link.responses
     ∧ (s.judgeDownlink f).link.responseInProgress = s.link.responseInProgress
     ∧ (s.judgeDownlink f).link.reports = s.link.reports
     ∧ (s.judgeDownlink f).link.reportInProgress = s.link.reportInProgress
     ∧ (s.judgeDownlink f).link.rotation = s.link.rotation ∧ (s.judgeDownlink f).link.uplink = s.link.uplink
     ∧ (s.judgeDownlink f).aligner.nextIndex = s.aligner.nextIndex
     ∧ (s.judgeDownlink f).aligner.openRange = s.aligner.openRange
     ∧ (s.judgeDownlink f).aligner.latest = s.aligner.latest
     ∧ (s.judgeDownlink f).aligner.restartPoint = s.aligner.restartPoint
     ∧ (s.judgeDownlink f).aligner.windowClosed = s.aligner.windowClosed
     ∧ (s.judgeDownlink f).aligner.directionReversed = s.aligner.directionReversed
     ∧ (s.judgeDownlink f).aligner.cycles = s.aligner.cycles
     ∧ (s.judgeDownlink f).aligner.estimating = s.aligner.estimating
     ∧ (s.judgeDownlink f).calendar.day = s.calendar.day ∧ (s.judgeDownlink f).calendar.minute = s.calendar.minute
     ∧ (s.judgeDownlink f).calendar.strobeCount = s.calendar.strobeCount
     ∧ (s.judgeDownlink f).calendar.clockSet = s.calendar.clockSet
     ∧ (s.judgeDownlink f).calendar.specialDays = s.calendar.specialDays := by
  simp only [State.judgeDownlink]; repeat' split
  all_goals simp

/-- What a downlink frame leaves. -/
@[simp] theorem State.downlinkFrame_frame (s : State) (f : LineFrame) :
    (s.downlinkFrame f).resetApplied = s.resetApplied ∧ (s.downlinkFrame f).lanes = s.lanes
     ∧ (s.downlinkFrame f).released = s.released ∧ (s.downlinkFrame f).history = s.history
     ∧ (s.downlinkFrame f).completed = s.completed ∧ (s.downlinkFrame f).bank = s.bank
     ∧ (s.downlinkFrame f).demand = s.demand ∧ (s.downlinkFrame f).credits = s.credits
     ∧ (s.downlinkFrame f).timeNotices = s.timeNotices ∧ (s.downlinkFrame f).checkers = s.checkers
     ∧ (s.downlinkFrame f).freeChoices = s.freeChoices ∧ (s.downlinkFrame f).pending = s.pending
     ∧ (s.downlinkFrame f).link.responses = s.link.responses
     ∧ (s.downlinkFrame f).link.responseInProgress = s.link.responseInProgress
     ∧ (s.downlinkFrame f).link.reports = s.link.reports
     ∧ (s.downlinkFrame f).link.reportInProgress = s.link.reportInProgress
     ∧ (s.downlinkFrame f).link.rotation = s.link.rotation ∧ (s.downlinkFrame f).link.uplink = s.link.uplink
     ∧ (s.downlinkFrame f).aligner.nextIndex = s.aligner.nextIndex
     ∧ (s.downlinkFrame f).aligner.openRange = s.aligner.openRange
     ∧ (s.downlinkFrame f).aligner.latest = s.aligner.latest
     ∧ (s.downlinkFrame f).aligner.restartPoint = s.aligner.restartPoint
     ∧ (s.downlinkFrame f).aligner.windowClosed = s.aligner.windowClosed
     ∧ (s.downlinkFrame f).aligner.directionReversed = s.aligner.directionReversed
     ∧ (s.downlinkFrame f).aligner.cycles = s.aligner.cycles
     ∧ (s.downlinkFrame f).aligner.estimating = s.aligner.estimating
     ∧ (s.downlinkFrame f).calendar.day = s.calendar.day ∧ (s.downlinkFrame f).calendar.minute = s.calendar.minute
     ∧ (s.downlinkFrame f).calendar.strobeCount = s.calendar.strobeCount
     ∧ (s.downlinkFrame f).calendar.clockSet = s.calendar.clockSet
     ∧ (s.downlinkFrame f).calendar.specialDays = s.calendar.specialDays := by
  simp only [State.downlinkFrame, State.downlinkIdle]; split <;> simp

/-- What an idle downlink leaves. -/
@[simp] theorem State.downlinkIdleLine_frame (s : State) :
    (s.downlinkIdleLine).resetApplied = s.resetApplied ∧ (s.downlinkIdleLine).lanes = s.lanes
     ∧ (s.downlinkIdleLine).released = s.released ∧ (s.downlinkIdleLine).history = s.history
     ∧ (s.downlinkIdleLine).completed = s.completed ∧ (s.downlinkIdleLine).bank = s.bank
     ∧ (s.downlinkIdleLine).demand = s.demand ∧ (s.downlinkIdleLine).credits = s.credits
     ∧ (s.downlinkIdleLine).timeNotices = s.timeNotices ∧ (s.downlinkIdleLine).checkers = s.checkers
     ∧ (s.downlinkIdleLine).freeChoices = s.freeChoices ∧ (s.downlinkIdleLine).pending = s.pending
     ∧ (s.downlinkIdleLine).link.responses = s.link.responses
     ∧ (s.downlinkIdleLine).link.responseInProgress = s.link.responseInProgress
     ∧ (s.downlinkIdleLine).link.reports = s.link.reports
     ∧ (s.downlinkIdleLine).link.reportInProgress = s.link.reportInProgress
     ∧ (s.downlinkIdleLine).link.rotation = s.link.rotation ∧ (s.downlinkIdleLine).link.uplink = s.link.uplink
     ∧ (s.downlinkIdleLine).aligner.nextIndex = s.aligner.nextIndex
     ∧ (s.downlinkIdleLine).aligner.openRange = s.aligner.openRange
     ∧ (s.downlinkIdleLine).aligner.latest = s.aligner.latest
     ∧ (s.downlinkIdleLine).aligner.restartPoint = s.aligner.restartPoint
     ∧ (s.downlinkIdleLine).aligner.windowClosed = s.aligner.windowClosed
     ∧ (s.downlinkIdleLine).aligner.directionReversed = s.aligner.directionReversed
     ∧ (s.downlinkIdleLine).aligner.cycles = s.aligner.cycles
     ∧ (s.downlinkIdleLine).aligner.estimating = s.aligner.estimating
     ∧ (s.downlinkIdleLine).calendar.day = s.calendar.day ∧ (s.downlinkIdleLine).calendar.minute = s.calendar.minute
     ∧ (s.downlinkIdleLine).calendar.strobeCount = s.calendar.strobeCount
     ∧ (s.downlinkIdleLine).calendar.clockSet = s.calendar.clockSet
     ∧ (s.downlinkIdleLine).calendar.specialDays = s.calendar.specialDays := by
  simp only [State.downlinkIdleLine, State.downlinkIdle]; split <;> simp

/-- What a choice of the scheduler leaves. -/
@[simp] theorem State.choose_frame (s : State) :
    (s.choose).resetApplied = s.resetApplied ∧ (s.choose).lanes = s.lanes ∧ (s.choose).aligner = s.aligner
     ∧ (s.choose).released = s.released ∧ (s.choose).history = s.history ∧ (s.choose).completed = s.completed
     ∧ (s.choose).engine = s.engine ∧ (s.choose).requests = s.requests ∧ (s.choose).bank = s.bank
     ∧ (s.choose).calendar = s.calendar ∧ (s.choose).demand = s.demand ∧ (s.choose).credits = s.credits
     ∧ (s.choose).timeNotices = s.timeNotices ∧ (s.choose).tables = s.tables ∧ (s.choose).monitor = s.monitor
     ∧ (s.choose).checkers = s.checkers ∧ (s.choose).freeChoices = s.freeChoices ∧ (s.choose).pending = s.pending
     ∧ (s.choose).link.downlink = s.link.downlink ∧ (s.choose).link.commands = s.link.commands
     ∧ (s.choose).link.paused = s.link.paused := by
  simp only [State.choose, State.serve, State.rotate, State.nothingEligible, State.sendNotice, State.sendResponse,
    State.sendReportFirst, State.sendReportSecond, State.sendCapture, State.beginFrame]
  repeat' split
  all_goals simp

/-! ### What a window takes -/

/-- A set that accumulates adds to the phases of the enabled lanes and leaves the others (R61, R69, R86). -/
@[simp] theorem accumulateSet_get (lanes : Nat) (sums : PerPhase PhaseSums) (phases : PerPhase CompletedPhase) (x : Phase) :
    (accumulateSet lanes sums phases).get x =
      if lanes.testBit (phaseNumber x) then (sums.get x).accumulate (phases.get x) else sums.get x := by
  cases x <;> rfl

/-- A phase of a lane disabled in the window's LANES mask keeps its sums whatever set the window takes (R69, R86). -/
theorem Window.take_of_disabled (w : Window) (c : CompletedSet) (day minute : Nat) (m : Meter) (x : Phase)
    (h : (w.opening.getD { day := day, minute := minute, meter := m }).meter.lanes.testBit (phaseNumber x) = false) :
    (w.take c day minute m).sums.get x = w.sums.get x := by
  simp only [Window.take]
  split
  · rfl
  · rw [accumulateSet_get, h, if_neg (by decide)]

end Sys2Proof.Machine
end

