-- ==== Sys2Proof/Laws/Steps.lean ====
section
/-!
SUPPORT. What a step does where nothing else is due, and what an executed command does.
-/

namespace Sys2Proof.Machine

/-- Where nothing comes about at once, nothing is taken. -/
theorem State.settle_of_quiet (s : State) (h : s.quiet = true) : s.settle = s := by
  simp only [State.quiet, Bool.and_eq_true, Bool.not_eq_true'] at h
  obtain ⟨⟨⟨⟨⟨⟨⟨⟨ha, hb⟩, hc⟩, hu⟩, hx⟩, hy⟩, hz⟩, hd⟩, hr⟩ := h
  simp [State.settle, State.takePeriodEnd, State.takeCaptureTerminal, State.takeTimebaseEnd, State.takeTerminal,
    State.takeRollover, ha, hb, hc, hu, hx, hy, hz, hd, hr]

/-- A step of a ready device acts at once. -/
theorem State.after_of_ready (s : State) (h : s.Ready) (act : State → State) : s.after act = act s := by
  simp [State.after, h.1, s.settle_of_quiet h.2]

/-- A step that stands alone acts while the power-on reset is not applied. -/
theorem State.unlessReset_of (s : State) (h : s.resetApplied = false) (act : State → State) :
    s.unlessReset act = act s := by
  simp [State.unlessReset, h]

/-- A command that executes is answered. -/
theorem State.execute_of (s : State) {code : Byte} {params : List Byte} {rest : List (List Byte)}
    (h : s.Executes code params rest) (ok : List Byte → Bool) (own : List Byte → State → Reply) :
    s.execute code ok own = s.answerHead rest code params ok own := by
  simp [State.execute, s.after_of_ready h.1, h.2.1, h.2.2]

/-- The answer to a command of right length is its owner's. -/
theorem State.answerHead_of_ok (s : State) (rest : List (List Byte)) (code : Byte) (params : List Byte)
    (ok : List Byte → Bool) (own : List Byte → State → Reply) (h : ok params = true) :
    s.answerHead rest code params ok own =
      (own params { s with link := { s.link with commands := rest } }).state.respond code
        (own params { s with link := { s.link with commands := rest } }).status
        (own params { s with link := { s.link with commands := rest } }).data := by
  simp [State.answerHead, h]

/-- A command of wrong length is answered BAD_COMMAND and has no other effect (R157). -/
theorem State.answerHead_of_bad (s : State) (rest : List (List Byte)) (code : Byte) (params : List Byte)
    (ok : List Byte → Bool) (own : List Byte → State → Reply) (h : ok params = false) :
    s.answerHead rest code params ok own = s.answered rest code .badCommand [] := by
  simp [State.answerHead, h, State.refuse, State.respond, State.answered]

/-- What execution of a command leaves of any property that its owner, the answer and the steps due at once keep. -/
theorem State.execute_keeps (P : State → Prop) (s : State) (code : Byte) (ok : List Byte → Bool)
    (own : List Byte → State → Reply) (hs : P s) (hset : P s.settle)
    (hown : ∀ rest params, s.link.commands = (code :: params) :: rest → s.link.responses.length < Config.responseDepth →
      P (s.settle.answerHead rest code params ok own)) :
    P (s.execute code ok own) := by
  simp only [State.execute, State.after]
  split
  · exact hs
  · split
    · rename_i c params rest hc
      split
      · rename_i hroom
        obtain ⟨h1, rfl⟩ := hroom
        exact hown rest params (by simpa using hc) (by simpa using h1)
      · exact hset
    · exact hset

end Sys2Proof.Machine
end

