-- ==== Sys2Proof/WellFormed.lean ====
section
/-!
DEFINITION. Which steps a sender can send. A line idle ends a frame "after a character" (R154, R166), so a frame has at
least one; and a downlink row is named by the kind that the frame's first character carries (R167).
-/

namespace Sys2Proof

/-- A frame holds at least one character. -/
def LineFrame.nonempty (f : LineFrame) : Bool := !f.chars.isEmpty

/-- The frame's first character is the downlink kind `k`. -/
def LineFrame.firstIs (f : LineFrame) (k : Byte) : Bool := f.chars.head? == some k

/-- A step that a sender can send. -/
def Instr.wellFormed : Instr → Bool
  | .upDirectionFrame _ f => f.nonempty
  | .command f => f.nonempty && !f.firstIs 2#8 && !f.firstIs 3#8
  | .pause f => f.firstIs 2#8
  | .resumeFlow f => f.firstIs 3#8
  | .powerOnReset | .strobe | .setRelease | .qualityPeriodEnd _ | .arithmeticStep | .captureTerminalCount
  | .setProcessing | .forcedCloseRequest _ | .demandCredit | .minuteRollover | .terminalCount | .setTimeNotice
  | .watchdogExpiry | .timebaseEnd _ | .schedulerChoice | .readLanes | .start | .stop | .resume | .engineReset
  | .readWindow | .readCounters | .readBank | .snapshot | .readSnapshot | .preload | .setTime | .readClock
  | .addSpecialDay | .removeSpecialDay | .readSpecialDays | .readDemand | .resetDemand | .readTable | .writeTable
  | .applyTable | .cancelApply | .readFlags | .clearFlags | .setMask | .captureArm | .captureTrigger | .captureStop
  | .readCaptureStatus | .linkTestStart | .linkTestStop | .readLinkTest | .powerOnResetEnds | .downlinkLineIdle
  | .badCommand => true

end Sys2Proof
end

