-- ==== Sys2Proof/Tests/Slice0.lean ====
section
/-!
SUPPORT. Tests: the well-formedness checks refuse ill-formed steps; the worked examples of the manual; and, for each statement
of Certificates/Slice0/Obligations.lean that has hypotheses, a concrete state and operands that meet them, clause by clause.
-/

namespace Sys2Proof.Tests

open Sys2Proof.Machine

/-! ### Well-formedness: an ill-formed step for each check -/

/-- An empty run of characters ends no frame (R154, R166). -/
theorem test_empty_up_frame_refused : (Instr.upDirectionFrame .a ⟨[], true⟩).wellFormed = false := by decide

theorem test_empty_command_refused : (Instr.command ⟨[], true⟩).wellFormed = false := by decide

/-- The COMMAND row is not that of a frame of kind 2 or 3 (R167). -/
theorem test_command_of_pause_kind_refused : (Instr.command ⟨[2, 0, 0, 0], true⟩).wellFormed = false := by decide

theorem test_command_of_resume_kind_refused : (Instr.command ⟨[3, 0, 0, 0], true⟩).wellFormed = false := by decide

theorem test_pause_of_other_kind_refused : (Instr.pause ⟨[1, 0, 0, 0], true⟩).wellFormed = false := by decide

theorem test_resume_flow_of_other_kind_refused : (Instr.resumeFlow ⟨[2, 0, 0, 0], true⟩).wellFormed = false := by decide

theorem test_command_accepted : (Instr.command ⟨[1, 1, 0x10, 0, 0], true⟩).wellFormed = true := by decide

/-! ### Wire formats -/

/-- The CRC of R129 over the characters "123456789", the check value of this generator and preset: 29B1h. -/
theorem test_crc_check_value : crc16 [0x31, 0x32, 0x33, 0x34, 0x35, 0x36, 0x37, 0x38, 0x39] = 0x29B1#16 := by decide +kernel

/-- R170: signed values go high byte first in two's complement. -/
theorem test_signed_bytes : beSigned 3 (-2) = [0xFF, 0xFF, 0xFE] ∧ beInt [0xFF, 0xFF, 0xFE] = -2 := by decide

/-- R166: a STROBE frame of lane B with index 5: kind 1 in bits 7..5, lane 2 in bits 4..3, the data zero. -/
theorem test_strobe_frame_bytes :
    (DownFrame.bytes { kind := .strobe, lane := .b, index := 5, data := 0 }).take 9 = [0x30, 0, 5, 0, 0, 0, 0, 0, 0] := by
  decide +kernel

/-- R181: limit code 0A3h is 20 × 4^3 = 1280. -/
theorem test_limit_code : limitOf 0xA3#8 = 1280 := by decide

/-- R170: a window summary is 163 bytes long. -/
theorem test_summary_length : summaryAtPowerOn.bytes.length = 163 := by decide +kernel

/-! ### The worked examples of the manual -/

/-- Section 3.8.1: one set on phase A. -/
theorem test_worked_set :
    completePhase { vOfs := -120, vGain := 34406, iOfs := 25, iGain := 30000, delay := 64, polarity := 0 } (some (-36900))
        { voltage := .present 257000, current := some (-41000) }
      = { voltage := .present 269973, current := some (-37395), power := some (-10095640335), square := some 72885420729 } := by
  decide

/-- The accumulators of section 4.12.1. -/
def workedSums : PerPhase PhaseSums :=
  ⟨⟨2500000000000, 2600000000000, 100000000000, 288000000000000, 4000⟩,
   ⟨-9000000000000, 400000000000, 9400000000000, 291000000000000, 4000⟩,
   ⟨1200000000000, 1200000000000, 0, 286000000000000, 4000⟩⟩

theorem test_worked_netting_sum : net .sum 50000000 workedSums = ⟨0, 5300000000000, 0⟩ := by decide

theorem test_worked_netting_phase : net .phase 50000000 workedSums = ⟨3700000000000, 9000000000000, 0⟩ := by decide

theorem test_worked_netting_gross : net .gross 50000000 workedSums = ⟨4200000000000, 9500000000000, 0⟩ := by decide

/-- The METER values of section 4.12.1. -/
def workedMeter : Meter :=
  { meterAtPowerOn with
    netMode := 1, nw := 4000, q := 1000000000000, creep := 12500, expWarn := 1000000000, expTrip := 2000000000
    tripCount := 3, lowv := 150000 }

/-- Section 4.12.3: the export check over six windows. -/
theorem test_worked_export_check :
    (exportCheck workedMeter false 9000000000000 4000 .normal 0).2 = (.warn, 1)
      ∧ (exportCheck workedMeter false 8400000000000 4000 .warn 1).2 = (.warn, 2)
      ∧ (exportCheck workedMeter false 3300000000000 1500 .warn 2).2 = (.trip, 3)
      ∧ (exportCheck workedMeter true 8800000000000 4000 .trip 3).2 = (.trip, 3)
      ∧ (exportCheck workedMeter false 6000000000000 4000 .trip 3).2 = (.trip, 0)
      ∧ (exportCheck workedMeter false 3900000000000 4000 .trip 0).2 = (.normal, 0) := by
  decide

/-- Section 5.9.1: import of close 1 and the normalisation after close 3. -/
theorem test_worked_chain :
    (let d := chainStep 1000000000000 700000000000 1204 3700000000000;
      (d.residue, d.register, d.quanta)) = (400000000000, 1208, 4)
      ∧ (let d := chainStep 250000000000 550000000000 1209 0;
          (d.residue, d.register, d.quanta)) = (50000000000, 1211, 2) := by
  decide

/-- Section 5.9.2: a register that wraps. -/
theorem test_worked_wrap :
    (let d := chainStep 1000000000000 0 281474976710653 5000000000000;
      (d.register, d.quanta, d.wraps)) = (2, 5, true) := by
  decide

/-- R135: under ALIGNED a DI of 7 takes 6, 25 takes 24 and 50 takes 48. -/
theorem test_aligned_di :
    ({ meterAtPowerOn with demandMode := 0, di := 7 } : Meter).clamped.di = 6
      ∧ ({ meterAtPowerOn with demandMode := 0, di := 25 } : Meter).clamped.di = 24
      ∧ ({ meterAtPowerOn with demandMode := 0, di := 50 } : Meter).clamped.di = 48 := by
  decide

/-- R135: above the range the highest value, below it the lowest, with the dependent steps. -/
theorem test_clamped_fields :
    (let c := ({ meterAtPowerOn with
        nw := 4000000, q := 1, expTrip := 2 ^ 41, expWarn := 2 ^ 42, qAssert := 0, qClear := 9, stuckLimit := 15 } : Meter).clamped;
      (c.nw, c.q, c.expTrip, c.expWarn, c.qAssert, c.qClear, c.stuckLimit))
      = (3600000, 2 ^ 16, 2 ^ 40, 2 ^ 40, 1, 0, 16) := by
  decide +kernel

/-! ### States that the tests and witnesses use -/

/-- CONFIG after the first line idle, with no command waiting. -/
def idle : State := { State.reset with link := { State.reset.link with downlink := .idle } }

/-- A command waits at the head of the queue. -/
def asked (s : State) (code : Byte) (params : List Byte) : State :=
  { s with link := { s.link with commands := [code :: params] } }

/-- A METER table in the installed ranges: FULL at 80 sets. -/
def meter : Meter := { meterAtPowerOn with nw := 80 }

/-- CONFIG with a CAL table and a METER table active. -/
def loaded (m : Meter) : State :=
  { idle with tables := { idle.tables with calActive := some (.all calUnity), meterActive := some m } }

/-- METERING with an open window. -/
def running (m : Meter) (w : Window) : State :=
  { loaded m with engine := { engineAtPowerOn with state := .metering, window := some w } }

/-- A window of zero sets. -/
def emptyWindow : Window := { count := 0, band := 3, opening := none, sums := .all sumsZero }

/-- A window that holds `n` sets. -/
def heldWindow (m : Meter) (n : Nat) : Window :=
  { count := n, band := 3, opening := some { day := 0, minute := 0, meter := m }, sums := .all sumsZero }

/-- METERING with an empty window. -/
def metering : State := running meter emptyWindow

/-- The fault monitor agrees with the owners of the conditions, and what is true is latched. -/
def agreed (s : State) : State :=
  { s with monitor := { s.monitor with
      conditions := s.liveConditions, latched := s.monitor.latched ||| s.liveConditions } }

/-- FAILSAFE with an empty window. -/
def failsafe : State := agreed { metering with engine := { metering.engine with state := .failsafe } }

/-- Strobes 5 and 6 are open, and the lanes are in the state `st`. -/
def strobed (st : LaneState) : State :=
  agreed { loaded meter with
    aligner := { alignerAtPowerOn with nextIndex := 7, openRange := [5, 6], latest := some 6 }
    lanes := .all { laneAtPowerOn with state := st } }

/-- The sample frame of strobe `n` in a lane queue. -/
def sample (n : StrobeIndex) : SampleFrame :=
  { index := n, v := 100, i := 50, vOvr := false, iOvr := false, vFault := false, iFault := false, restart := false }

/-- The characters of an up-direction frame with its CRC (R166). -/
def laneFrame (body : List Byte) : LineFrame := ⟨body ++ beBytes 2 (crc16 body).toNat, true⟩

/-- The characters of a downlink frame with its CRC (R167). -/
def downlinkFrame (kind : Byte) (payload : List Byte) : LineFrame :=
  let body := kind :: BitVec.ofNat 8 payload.length :: payload
  ⟨body ++ beBytes 2 (crc16 body).toNat, true⟩

/-- A SAMPLE frame (kind 4) of lane A for strobe 5 with V = 100 and I = 50. -/
def frameFive : LineFrame := laneFrame [0x88, 0, 5, 0, 0, 100, 0, 0, 50]

/-- The same frame with RESTART. -/
def restartFive : LineFrame := laneFrame [0x88, 0x80, 5, 0, 0, 100, 0, 0, 50]

/-- What the integrity step of R3 reads from `frameFive`. -/
def readFive (restart : Bool) : UpLaneFrame :=
  { kind := 4, lane := 1, vOvr := false, iOvr := false, restart := restart, vFault := false, iFault := false, index := 5
    v := 100, i := 50, data := 0x000064000032 }

theorem test_sample_frame_reads :
    parseLaneFrame frameFive = some (readFive false) ∧ parseLaneFrame restartFive = some (readFive true) := by
  decide +kernel

/-- The next state of a step that completes. -/
def after (i : Instr) (s : State) : Option State :=
  match exec i s with
  | .next t => some t
  | .fault _ => none
  | .refused _ => none

/-! ### One step each -/

/-- Section 1.10.1: the outcomes of seven frames across the wrap, as distances from the oldest open index 4094. -/
theorem test_indices_across_the_wrap :
    [4095, 0, 1, 4093, 4086, 4085].map (fun s : Nat => ((BitVec.ofNat 12 s - 4094#12).toNat : Nat))
      = [1, 2, 3, 4095, 4088, 4087] := by
  decide

theorem test_strobe_counts :
    (after .strobe idle).map (fun t => (t.aligner.nextIndex, t.aligner.openRange, t.calendar.strobeCount))
      = some (1, [0], 1) := by
  decide +kernel

/-- R54: START without tables is refused with NOT_READY, 07h. -/
theorem test_start_needs_tables :
    (after .start (asked idle 0x10 [])).map (fun t => (t.link.responses, t.engine.state))
      = some ([{ code := 0x10, status := .notReady, data := [] }], .config) := by
  decide +kernel

theorem test_start_begins :
    (after .start (asked (loaded meter) 0x10 [])).map (fun t => (t.engine.state, t.engine.window))
      = some (.metering, some { count := 0, band := 0, opening := none, sums := .all sumsZero }) := by
  decide +kernel

/-- R60, R61: the first set of a window opens it. -/
theorem test_set_opens_the_window :
    (after .setProcessing { metering with completed :=
      [{ index := 0, status := 0x8000, phases := .all { voltage := .absent, current := none, power := some (-7), square := none } }] }).map
        (fun t => t.engine.window.map (fun w => (w.count, w.opening.isSome, w.sums.a.energy, w.sums.a.grossExp)))
      = some (some (1, true, -7, 7)) := by
  decide +kernel

/-- R101: a minute of 1440 is refused; 3C0h is minute 960. -/
theorem test_set_time :
    (after .setTime (asked idle 0x30 [0, 10, 0x05, 0xA0, 0, 0, 0])).map (fun t => t.calendar.clockSet) = some false
      ∧ (after .setTime (asked idle 0x30 [0, 10, 0x03, 0xC0, 0, 0, 9])).map
          (fun t => (t.calendar.day, t.calendar.minute, t.calendar.strobeCount, t.calendar.clockSet))
        = some (10, 960, 9, true) := by
  decide +kernel

/-- R98, R99: minute 1439 rolls over into minute 0 of the next day. -/
theorem test_day_rollover :
    (after .minuteRollover { idle with calendar := { idle.calendar with day := 7, minute := 1439, strobeCount := 240000 } }).map
      (fun t => (t.calendar.day, t.calendar.minute, t.calendar.strobeCount)) = some (8, 0, 0) := by
  decide +kernel

/-- R142: CLOCK_NOT_SET, index 29, is a true condition and stays latched; the answer names it. -/
theorem test_clear_flags :
    (after .clearFlags (asked idle 0x49 [0, 0, 0, 0x20, 0, 0])).map (fun t => (t.monitor.latched, t.link.responses))
      = some (0x20000000#48, [{ code := 0x49, status := .ok, data := [0, 0, 0, 0x20, 0, 0] }]) := by
  decide +kernel

/-- R155: an accepted COMMAND frame joins the queue. -/
theorem test_command_joins_the_queue :
    (after (.command (downlinkFrame 1 [0x10])) idle).map (fun t => t.link.commands) = some [[0x10]] := by
  decide +kernel

/-- R92: PRELOAD of import band 2 with 300. -/
theorem test_preload :
    (after .preload (asked idle 0x23 [0, 2, 0, 0, 0, 0, 0, 0, 1, 44])).map
      (fun t => (t.bank.accounts.bandImp.get 2, t.bank.accounts.updateCount)) = some (300, 1) := by
  decide +kernel

/-- R178: from the first 48 bits of a seed frame of ones, the next bit is 1 xor 1 = 0. -/
theorem test_pattern_bit : nextPatternBit 0x7FFF#15 = false ∧ advanceBit 0x7FFF#15 = 0x7FFE#15 := by decide

/-! ### Witnesses: the hypotheses of each statement can be met -/

/-- A statement about the three phases, phase by phase. -/
theorem forall_phase (p : Phase → Prop) : (∀ x, p x) ↔ p .a ∧ p .b ∧ p .c :=
  ⟨fun h => ⟨h .a, h .b, h .c⟩, fun h x => by cases x <;> simp [h]⟩

theorem witness_StepTakesTheFrontCommand :
    ({ idle with pending := [.strobe, .setRelease] } : State).pending = .strobe :: [.setRelease] ∧ idle.pending = [] := by
  decide

theorem witness_PowerOnResetAppliesAndEnds :
    idle.powerOnReset.resetApplied = true ∧ Instr.strobe ≠ .powerOnReset ∧ Instr.strobe ≠ .powerOnResetEnds := by
  decide

theorem witness_WhatIsDueAtOnceComesFirst : idle.resetApplied = false ∧ Instr.strobe.standsAlone = false := by decide

theorem witness_EveryStepKeepsTheMonitorLaw :
    failsafe.MonitorLaw ∧ ∃ t, step { failsafe with pending := [.strobe] } = .next t := by
  refine ⟨by unfold State.MonitorLaw; decide +kernel, _, rfl⟩

theorem witness_EveryStepKeepsTheQueueBounds :
    (asked idle 0x21 []).QueueLaw ∧ ∃ t, step { asked idle 0x21 [] with pending := [.snapshot] } = .next t := by
  refine ⟨by unfold State.QueueLaw; decide, _, rfl⟩

/-- Two special days, the first of them today. -/
def withDays : State :=
  { idle with calendar := { idle.calendar with
      day := 4, clockSet := true, specialDays := [{ day := 4, profile := 1 }, { day := 9, profile := 7 }] } }

theorem withDays_law : withDays.SpecialDayLaw := by unfold State.SpecialDayLaw; decide

theorem witness_EveryStepKeepsTheSpecialDayLaw :
    withDays.SpecialDayLaw ∧ ∃ t, step { withDays with pending := [.minuteRollover] } = .next t :=
  ⟨withDays_law, _, rfl⟩

theorem strobed_law (st : LaneState) : (strobed st).RangeLaw := by
  refine ⟨⟨⟨rfl, rfl⟩, fun n h => h⟩, fun x => ?_⟩
  cases x <;> exact ⟨List.Pairwise.nil, fun f hf => absurd hf List.not_mem_nil, fun _ => rfl⟩

theorem witness_EveryStepKeepsTheRangeLaw :
    (strobed .up).RangeLaw ∧ ∃ t, step { strobed .up with pending := [.setRelease] } = .next t :=
  ⟨strobed_law .up, _, rfl⟩

theorem meter_installed : meter.Installed := by unfold Meter.Installed; decide

/-- The laws of tables, windows and the bank hold in METERING with 79 sets in the window. -/
theorem held_billing : (running meter (heldWindow meter 79)).BillingLaw := by
  refine ⟨⟨?_, ?_, ?_, ?_, ?_, by decide, rfl, ?_, ?_⟩, ⟨rfl, fun _ => ⟨rfl, rfl⟩, ?_⟩, ⟨by decide, ?_, ?_⟩⟩
  · intro t h x
    injection h with h
    subst h
    cases x <;> (unfold CalEntry.Installed; decide)
  · intro m h
    injection h with h
    subst h
    exact meter_installed
  · intro t h
    exact nomatch h
  · intro name h
    cases name <;> exact nomatch h
  · intro x
    cases x <;> decide
  · unfold CalendarTable.Encodable
    decide +kernel
  · intro t h
    exact nomatch h
  · intro w h
    injection h with h
    subst h
    refine ⟨fun h => (nomatch h), fun o h => ?_⟩
    injection h with h
    subst h
    exact ⟨rfl, by decide, by decide, fun x _ => by cases x <;> rfl⟩
  · intro h
    exact nomatch h
  · intro m h
    injection h with h
    subst h
    decide

theorem witness_EveryStepKeepsTheBillingLaw :
    (running meter (heldWindow meter 79)).BillingLaw
      ∧ ∃ t, step { running meter (heldWindow meter 79) with pending := [.setProcessing] } = .next t :=
  ⟨held_billing, _, rfl⟩

theorem witness_RaisesAndReportsLatchAndNotify :
    (Flag.overrange .a).urgent = false ∧ idle.monitor.mask.getLsbD Flag.failsafe.index = false ∧ idle.link.urgent = none
      ∧ (idle.raise .failsafe).link.urgent.isSome = true
      ∧ idle.monitor.conditions.getLsbD Flag.failsafe.index = false
      ∧ idle.monitor.conditions.getLsbD Flag.clockNotSet.index = true := by
  decide +kernel

/-! ### Lane receivers -/

/-- A frame of ten characters. -/
def shortFrame : LineFrame := ⟨[0x88, 0, 5, 0, 0, 100, 0, 0, 50, 0], true⟩

theorem witness_UpFrameWithCrcErrorIsCounted :
    (idle.Ready ∧ idle.MonitorLaw ∧ (idle.lanes.get .a).state = .off)
      ∧ (strobed .up).Ready ∧ (strobed .up).MonitorLaw ∧ ((strobed .up).lanes.get .a).state ≠ .off
      ∧ shortFrame.chars.length ≠ 11 := by
  unfold State.Ready State.MonitorLaw
  decide +kernel

/-- A SAMPLE frame of lane B, heard by lane A. -/
def otherLane : LineFrame := laneFrame [0x90, 0, 5, 0, 0, 100, 0, 0, 50]

theorem witness_UpFrameOfWrongIdentityIsASequenceError :
    ((strobed .up).Ready ∧ (strobed .up).MonitorLaw ∧ (strobed .lost).Ready ∧ (strobed .lost).MonitorLaw)
      ∧ otherLane.stopBits = true ∧ otherLane.chars.length = 11
      ∧ crc16 (otherLane.chars.take 9) = BitVec.ofNat 16 (beNat (otherLane.chars.drop 9))
      ∧ (otherLane.chars.getD 0 0).toNat / 8 % 4 ≠ phaseNumber .a + 1
      ∧ LaneState.up.waited = true ∧ ((strobed .up).lanes.get .a).sequenceRun < 3
      ∧ ((strobed .up).withLane .a { laneAtPowerOn with state := .up, sequenceRun := 3 }).Ready
      ∧ ((strobed .up).withLane .a { laneAtPowerOn with state := .up, sequenceRun := 3 }).MonitorLaw := by
  unfold State.Ready State.MonitorLaw
  decide +kernel

/-- Lane A in UP holds the frame of strobe 5. -/
def holding : State := (strobed .up).withLane .a { laneAtPowerOn with state := .up, queue := [sample 5] }

theorem holding_law : holding.RangeLaw := by
  refine ⟨⟨⟨rfl, rfl⟩, fun n h => h⟩, fun x => ?_⟩
  cases x
  · exact ⟨List.pairwise_singleton .., fun f hf => by cases List.mem_singleton.1 hf; decide, fun h => nomatch h⟩
  · exact ⟨List.Pairwise.nil, fun f hf => absurd hf List.not_mem_nil, fun _ => rfl⟩
  · exact ⟨List.Pairwise.nil, fun f hf => absurd hf List.not_mem_nil, fun _ => rfl⟩

/-- The index of a SAMPLE frame: queued already, the next strobe's, or nine strobes behind the oldest open one. -/
theorem witness_UpFrameOfWrongIndexIsASequenceError :
    (holding.Ready ∧ holding.MonitorLaw ∧ holding.RangeLaw ∧ ∃ e ∈ (holding.lanes.get .a).queue, e.index = 5#12)
      ∧ ((frameFive.chars.getD 1 0).extractLsb' 0 4 ++ frameFive.chars.getD 2 0 : StrobeIndex) = 5
      ∧ (7#12 ∉ (strobed .up).aligner.openRange ∧ (7#12 - (strobed .up).aligner.oldest).toNat < 4088)
      ∧ (4092#12 ∉ (strobed .up).aligner.openRange ∧ (4092#12 - (strobed .up).aligner.oldest).toNat = 4087) :=
  ⟨⟨by unfold State.Ready; decide +kernel, by unfold State.MonitorLaw; decide +kernel, holding_law, by decide⟩,
    by decide +kernel, by decide, by decide⟩

theorem witness_SampleEntryIsTheClampedFrame :
    frameFive.stopBits = true ∧ frameFive.chars.length = 11
      ∧ crc16 (frameFive.chars.take 9) = BitVec.ofNat 16 (beNat (frameFive.chars.drop 9)) := by
  decide +kernel

theorem strobed_ready :
    ((strobed .up).Ready ∧ (strobed .up).MonitorLaw ∧ (strobed .lost).Ready ∧ (strobed .test).Ready)
      ∧ (strobed .test).MonitorLaw ∧ (strobed .seek).Ready ∧ (strobed .seek).MonitorLaw := by
  unfold State.Ready State.MonitorLaw
  decide +kernel

theorem witness_AcceptedSampleJoinsTheLaneQueue :
    (strobed .up).RangeLaw ∧ ((strobed .up).lanes.get .a).state.waited = true
      ∧ parseLaneFrame frameFive = some (readFive false) ∧ (readFive false).kind = 4
      ∧ (readFive false).lane = phaseNumber .a + 1 ∧ (readFive false).restart = false
      ∧ (readFive false).index ∈ (strobed .up).aligner.openRange
      ∧ (∀ e ∈ ((strobed .up).lanes.get .a).queue, e.index ≠ (readFive false).index)
      ∧ (strobed .seek).RangeLaw ∧ (readFive true).restart = true ∧ ((strobed .seek).lanes.get .a).state = .seek :=
  ⟨strobed_law .up, by decide, by decide +kernel, by decide, by decide, by decide, by decide, by decide, strobed_law .seek,
    by decide, by decide⟩

/-- Lane A in UP under STUCK_LIMIT 16 with 15 equal codes behind it: the next one makes its voltage stuck. -/
def nearlyStuck : State :=
  let s := strobed .up
  { s with
    tables := { s.tables with meterActive := some { meter with stuckLimit := 16 } }
    lanes := s.lanes.set .a
      { laneAtPowerOn with state := .up, voltage := { detectorAtPowerOn with previous := some 100, equalRun := 15 } } }

theorem witness_AcceptedSampleMakesTheVoltageStuck :
    nearlyStuck.Ready ∧ nearlyStuck.MonitorLaw ∧ nearlyStuck.RangeLaw ∧ nearlyStuck.stuckLimit = 16
      ∧ (nearlyStuck.lanes.get .a).voltage.stuck = false
      ∧ ((nearlyStuck.lanes.get .a).voltage.feed 16 (clampFrame (readFive false)).v).stuck = true := by
  refine ⟨by unfold State.Ready; decide +kernel, by unfold State.MonitorLaw; decide +kernel, ?_, by decide +kernel,
    by decide +kernel, by decide +kernel⟩
  refine ⟨⟨⟨rfl, rfl⟩, fun n h => h⟩, fun x => ?_⟩
  cases x <;> exact ⟨List.Pairwise.nil, fun f hf => absurd hf List.not_mem_nil, fun _ => rfl⟩

theorem witness_AcceptedFrameBringsSeek :
    ((strobed .lost).RangeLaw ∧ (strobed .lost).MonitorLaw ∧ ((strobed .lost).lanes.get .a).state = .lost)
      ∧ ((strobed .up).RangeLaw ∧ ((strobed .up).lanes.get .a).state = .up ∧ (readFive true).restart = true
        ∧ ∀ e ∈ ((strobed .up).lanes.get .a).queue, e.index ≠ (readFive true).index)
      ∧ parseLaneFrame restartFive = some (readFive true) ∧ (readFive true).index ∈ (strobed .up).aligner.openRange :=
  ⟨⟨strobed_law .lost, by unfold State.MonitorLaw; decide +kernel, by decide⟩, ⟨strobed_law .up, by decide, by decide,
    by decide⟩, by decide +kernel, by decide⟩

/-- Set 5 is released: the oldest open index is 6. -/
def released (st : LaneState) : State :=
  { strobed st with aligner := { (strobed st).aligner with openRange := [6] } }

theorem released_law (st : LaneState) : (released st).RangeLaw := by
  refine ⟨⟨rfl, fun n h => h⟩, fun x => ?_⟩
  cases x <;> exact ⟨List.Pairwise.nil, fun f hf => absurd hf List.not_mem_nil, fun _ => rfl⟩

theorem witness_LateSampleIsOnlyCounted :
    (released .up).RangeLaw ∧ (released .up).Ready ∧ (released .up).MonitorLaw
      ∧ ((released .up).lanes.get .a).state ≠ .off
      ∧ 4088 ≤ ((readFive false).index - (released .up).aligner.oldest).toNat
      ∧ (strobed .test).RangeLaw ∧ ((strobed .test).lanes.get .a).state = .test :=
  ⟨released_law .up, by unfold State.Ready; decide +kernel, by unfold State.MonitorLaw; decide +kernel, by decide,
    by decide, strobed_law .test, by decide⟩

theorem witness_StuckDetectorSetsAndClears :
    16 ≤ 16 ∧ detectorAtPowerOn.stuck = false ∧ detectorAtPowerOn.previous ≠ some 7
      ∧ (let d : Detector := { detectorAtPowerOn with previous := some 7, equalRun := 15 };
        d.stuck = false ∧ 16 ≤ (if d.previous = some 7 then min (d.equalRun + 1) 4000 else 0)
          ∧ (if d.previous = some 8 then min (d.equalRun + 1) 4000 else 0) < 16)
      ∧ (let d : Detector := { detectorAtPowerOn with stuck := true, blockPosition := 62 };
        d.stuck = true ∧ d.blockPosition < 63)
      ∧ (let d : Detector := { detectorAtPowerOn with stuck := true, blockPosition := 63, goodBlocks := 3 };
        d.stuck = true ∧ d.blockPosition = 63 ∧ d.goodBlocks ≤ 3) := by
  decide

/-- Lane A at the end of a quality period with `errors` errors. -/
def periodAt (st : LaneState) (position errors : Nat) : State :=
  (strobed st).withLane .a { laneAtPowerOn with state := st, periodPosition := position, periodErrors := errors }

theorem witness_QualityPeriodEndJudgesTheLane :
    ((periodAt .up 3999 0).resetApplied = false ∧ (periodAt .up 3999 0).MonitorLaw
        ∧ (periodAt .up 3999 0).tables.meterActive = some meter ∧ ((periodAt .up 3999 0).lanes.get .a).periodPosition < 4000)
      ∧ ((periodAt .up 4000 15).MonitorLaw ∧ ((periodAt .up 4000 15).lanes.get .a).periodErrors < meter.qAssert)
      ∧ ((periodAt .up 4000 16).MonitorLaw ∧ meter.qAssert ≤ ((periodAt .up 4000 16).lanes.get .a).periodErrors)
      ∧ ((periodAt .suspect 4000 4).MonitorLaw ∧ ((periodAt .suspect 4000 4).lanes.get .a).periodErrors ≤ meter.qClear)
      ∧ ((periodAt .suspect 4000 5).MonitorLaw ∧ meter.qClear < ((periodAt .suspect 4000 5).lanes.get .a).periodErrors) := by
  unfold State.MonitorLaw
  decide +kernel

/-! ### Aligner, arithmetic unit and capture -/

theorem witness_StrobeIssuesTheNextIndex :
    idle.Ready ∧ idle.expiryDue = false ∧ idle.releaseDue = false ∧ idle.aligner.nextIndex = 0
      ∧ (idle.withLane .a { laneAtPowerOn with state := .test }).Ready
      ∧ (idle.checkers.get .a).expected ≠ some (0#12 - 2)
      ∧ (let s := strobed .test;
          let t : State := { s with
            checkers := .all { checkerAtPowerOn with state := .synced, expected := some 5 }
            aligner := { s.aligner with openRange := [] } };
          t.Ready ∧ t.expiryDue = false ∧ t.releaseDue = false ∧ (t.lanes.get .a).state = .test
            ∧ (t.checkers.get .a).expected = some (t.aligner.nextIndex - 2)) := by
  unfold State.Ready
  decide +kernel

/-- R179, R181: the strobe at which index 5 is missing in SYNCED counts 48 wrong bits, which fail a CONTINUOUS test of limit 0 on
each lane. -/
theorem test_strobe_fails_a_lane_test :
    (let s := strobed .test;
      after .strobe { s with
        checkers := .all { checkerAtPowerOn with state := .synced, expected := some 5 }
        aligner := { s.aligner with openRange := [] } }).map
      (fun t => ((t.checkers.get .a).running, (t.checkers.get .a).failMark,
        t.monitor.latched.getLsbD (Flag.linkTestFail .a).index, t.monitor.latched.getLsbD (Flag.linkTestFail .c).index))
      = some (48, true, true, true) := by
  decide +kernel

/-- Lane A holds the frame of strobe 5, and strobes 5, 6 and 7 are open. -/
def atDeadline (st : LaneState) (queue : List SampleFrame) : State :=
  let s := (strobed .off).withLane .a { laneAtPowerOn with state := st, queue := queue }
  { s with aligner := { s.aligner with nextIndex := 8, openRange := [5, 6, 7], latest := some 7 } }

theorem witness_ReleaseFormsTheSetRecord :
    ((strobed .up).Ready ∧ (strobed .up).aligner.openRange = [5, 6]
        ∧ ¬ (∀ x, ((strobed .up).lanes.get x).state.waited = true →
          ∃ f ∈ ((strobed .up).lanes.get x).queue, f.index = 5#12)
        ∧ 5#12 + 2 ∉ (strobed .up).aligner.openRange)
      ∧ ((atDeadline .up [sample 5]).Ready ∧ (atDeadline .up [sample 5]).aligner.openRange = [5, 6, 7]
        ∧ 5#12 + 2 ∈ (atDeadline .up [sample 5]).aligner.openRange
        ∧ ((atDeadline .up [sample 5]).lanes.get .a).queue.find? (fun f => f.index == 5) = some (sample 5)) := by
  unfold State.Ready
  simp only [forall_phase]
  decide +kernel

/-- At its deadline set 5 has the voltage of phase A at fault, with `n` codes in the memory of 64 under the policy `subst`. -/
def faulty (subst n : Nat) : State :=
  let s := atDeadline .up [{ sample 5 with vFault := true }]
  { s with
    tables := { s.tables with meterActive := some { meter with subst := subst, cycleLen := 64, substMax := 1 } }
    aligner := { s.aligner with cycles := s.aligner.cycles.set .a { codes := List.replicate n 7, runCount := 0, estimated := 0 } } }

theorem witness_ReleaseFormsTheSetRecord_estimate :
    ((faulty 2 64).Ready ∧ ((faulty 2 64).aligner.cycles.get .a).codes = 7 :: List.replicate 63 7
        ∧ (List.replicate 63 (7 : Int)).length + 1 = 64 ∧ ((faulty 2 64).aligner.cycles.get .a).runCount < 1)
      ∧ ((faulty 2 63).Ready ∧ ((faulty 2 63).aligner.cycles.get .a).codes.length ≠ 64)
      ∧ (faulty 1 64).Ready
      ∧ ((atDeadline .up [sample 5]).aligner.cycles.get .a).codes.length < meter.cycleLen := by
  unfold State.Ready
  decide +kernel

/-- At its deadline set 5 finds no frame of lane A, which has missed `n` sets in a row, and phase A's memory holds one code. -/
def missing (n : Nat) : State :=
  let s := (atDeadline .up []).withLane .a { laneAtPowerOn with state := .up, absentRun := n }
  { s with aligner := { s.aligner with cycles := s.aligner.cycles.set .a { codes := [7], runCount := 1, estimated := 0 } } }

theorem witness_ReleaseFormsTheSetRecord_memory :
    ((missing 7).Ready ∧ (missing 7).releaseDue = true ∧ ((missing 7).lanes.get .a).absentRun = 7)
      ∧ (missing 6).Ready ∧ (missing 6).releaseDue = true ∧ ((missing 6).lanes.get .a).queue = []
      ∧ (after .setRelease (missing 7)).map (fun t => (t.aligner.cycles.get .a).codes) = some []
      ∧ (after .setRelease (missing 6)).map (fun t => (t.aligner.cycles.get .a).codes) = some [7] := by
  unfold State.Ready
  decide +kernel

theorem witness_ReleaseMovesTheRunsOfALane :
    ((atDeadline .up [sample 5]).Ready ∧ (atDeadline .up [sample 5]).releaseDue = true)
      ∧ ((atDeadline .seek []).Ready ∧ (atDeadline .seek []).releaseDue = true)
      ∧ (∃ t, exec .setRelease (atDeadline .up [sample 5]) = .next t)
      ∧ ∃ t, exec .setRelease (atDeadline .seek []) = .next t := by
  refine ⟨?_, ?_, ⟨_, rfl⟩, ⟨_, rfl⟩⟩ <;> (unfold State.Ready; decide +kernel)

/-- A set with phase A present. -/
def aSet (status : StatusWord) : SetRecord :=
  { index := 5, status := status, forNetting := true
    phases := ⟨⟨.present 257000, some (-41000)⟩, ⟨.absent, none⟩, ⟨.estimated 9, none⟩⟩ }

theorem witness_ArithmeticStepCompletesTheSet :
    ({ metering with released := [aSet 0x8000] } : State).Ready
      ∧ ({ metering with released := [aSet 0x8000] } : State).released = aSet 0x8000 :: [] := by
  unfold State.Ready
  decide +kernel

theorem witness_CompletedValuesStayInRange :
    calUnity.Installed ∧ ∀ h, (some (-524287) : Option Int) = some h → -524287 ≤ h ∧ h ≤ 524287 := by
  refine ⟨by unfold CalEntry.Installed; decide, fun h e => ?_⟩
  injection e with e
  subst e
  decide

/-- A completed set with HOLD as `hold` says. -/
def aCompleted (hold : Bool) : CompletedSet :=
  { index := 5, status := if hold then 0x8800 else 0x8000
    phases := .all { voltage := .present 3, current := some 2, power := some 6, square := some 9 } }

/-- The capture unit in the state `st` with trigger entry 2 enabled on every status word. -/
def capturing (st : CaptureState) (count : Nat) : State :=
  { idle with
    capture := { captureAtPowerOn with state := st, sourceIndex := some 5, decimationCount := count, decimation := 4 }
    tables := { idle.tables with trigger :=
      [⟨false, 0, 0xFFFF⟩, ⟨false, 0, 0xFFFF⟩, ⟨true, 0, 0xFFFF⟩, ⟨true, 0, 0xFFFF⟩] } }

theorem witness_CaptureUnitTakesACompletedSet :
    idle.capture.state = .idle
      ∧ ((capturing .armed 0).capture.state = .armed ∧ (capturing .armed 0).tables.trigger[2]? = some ⟨true, 0, 0xFFFF⟩
        ∧ (∀ k < 16, (0xFFFF : StatusWord).getLsbD k = true)
        ∧ ∀ j < 2, ∀ d, (capturing .armed 0).tables.trigger[j]? = some d → d.enabled = false)
      ∧ (let u := { (capturing .running 0).capture with sourceIndex := none };
        u.state = .running ∧ u.sourceIndex = none)
      ∧ ((capturing .running 0).capture.state = .running ∧ (capturing .running 0).capture.sourceIndex = some 5
        ∧ (capturing .running 0).capture.queue.length < 32)
      ∧ (capturing .running 3).capture.decimationCount ≠ 0
      ∧ 32 ≤ (List.replicate 32 (0 : Nat)).length
      ∧ ∀ e ∈ idle.tables.trigger, e.enabled = false := by
  refine ⟨by decide, ⟨by decide, by decide, by decide, ?_⟩, by decide, by decide, by decide, by decide, by decide⟩
  intro j hj d h
  have : j = 0 ∨ j = 1 := by omega
  rcases this with rfl | rfl <;> (injection h with h; subst h; rfl)

theorem witness_CaptureTerminalCountEndsTheBlock :
    (let u := { captureAtPowerOn with state := CaptureState.running, current := 0 };
      u.state = .running ∧ u.current = 0 ∧ u.mode = .once ∧ ({ u with mode := .rearm } : Capture).mode = .rearm
        ∧ ({ u with mode := .stream } : Capture).mode = .stream ∧ ({ u with current := 1 } : Capture).current ≠ 0)
      ∧ idle.resetApplied = false ∧ idle.capture.state ≠ .running := by
  decide

/-! ### Netting engine -/

/-- METERING with a completed set on its way and `n` sets in the window. -/
def receiving (n : Nat) (hold : Bool) : State :=
  { running meter (heldWindow meter n) with completed := [aCompleted hold] }

theorem witness_SetProcessingAccumulates :
    ((receiving 78 false).Ready ∧ (receiving 78 false).MonitorLaw ∧ (receiving 78 false).engine.state ≠ .config
        ∧ (heldWindow meter 78).count + 1 ≠ meter.nw ∧ (aCompleted false).status.getLsbD 11 = false)
      ∧ ((receiving 78 true).Ready ∧ (receiving 78 true).MonitorLaw ∧ (aCompleted true).status.getLsbD 11 = true)
      ∧ ({ receiving 0 false with engine := { (receiving 0 false).engine with state := .config } } : State).Ready
      ∧ (let s : State := { running meter emptyWindow with completed := [aCompleted false], requests := [.time, .switch] };
          s.Ready ∧ s.MonitorLaw ∧ emptyWindow.opening = none ∧ ForcedCause.switch ∈ s.requests
            ∧ emptyWindow.count + 1 ≠ meter.nw) := by
  unfold State.Ready State.MonitorLaw
  decide +kernel

/-- R69, R86: a phase of a lane disabled in the window's LANES takes no power (log 33). -/
theorem test_disabled_phase_takes_nothing :
    (after .setProcessing
        { running { meter with lanes := 5 } (heldWindow { meter with lanes := 5 } 1) with completed := [aCompleted false] }).map
      (fun t => t.engine.window.map (fun w => (w.count, w.sums.a.energy, w.sums.b, w.sums.c.energy)))
      = some (some (2, 6, sumsZero, 6)) := by
  decide +kernel

/-- R113, R115: a SWITCH that is outstanding gives the empty window the band in force before a set opens it (log 28). -/
theorem test_set_opens_under_the_band_in_force :
    (after .setProcessing { running meter emptyWindow with completed := [aCompleted false], requests := [.time, .switch] }).map
      (fun t => (t.requests, t.engine.window.map Window.band)) = some ([.time], some 0) := by
  decide +kernel

/-- The same state with a METER copy of another Q, DEMAND_MODE and WATCHDOG waiting for its install. -/
def applying (s : State) : State :=
  { s with tables := { s.tables with
      meterPending := { meter with q := 2 ^ 17, demandMode := 1, watchdog := 9 }, meterRequest := true } }

/-- The interval counter stands one set before its terminal count. -/
def lastSet (s : State) : State := { s with demand := { s.demand with state := .running, current := 1, base := 240000 } }

theorem witness_FullWindowCloses :
    (receiving 79 false).Ready ∧ (receiving 79 false).engine.state ≠ .config
      ∧ (receiving 79 false).engine.window = some (heldWindow meter 79)
      ∧ (heldWindow meter 79).opening = some ⟨0, 0, meter⟩ ∧ (receiving 79 false).tables.meterActive = some meter
      ∧ (receiving 79 false).tables.anyRequest = false ∧ (heldWindow meter 79).count + 1 = meter.nw
      ∧ (receiving 79 true).Ready
      ∧ (let s := applying (receiving 79 false);
          s.Ready ∧ s.tables.anyRequest = true ∧ s.engine.state = .metering ∧ s.tables.meterActive = some meter)
      ∧ (lastSet (receiving 79 false)).Ready := by
  unfold State.Ready
  decide +kernel

/-- R119 before R67: the set that ends the interval and fills the window makes one INTERVAL request and closes FULL (log 14). -/
theorem test_last_set_ends_the_interval_before_the_close :
    (after .setProcessing (lastSet (receiving 79 false))).map
        (fun t => (t.demand.state, t.requests, t.engine.summary.cause, t.engine.summary.count))
      = some (.ending, [.interval], some .full, 80) := by
  decide +kernel

/-- METERING with a close request made. -/
def requested (w : Window) (c : ForcedCause) : State := { running meter w with requests := [c] }

theorem witness_ForcedRequestsByTheOpenWindow :
    ((metering.Ready ∧ ForcedCause.switch ∉ metering.requests)
        ∧ (requested emptyWindow .switch).Ready ∧ ForcedCause.switch ∈ (requested emptyWindow .switch).requests
        ∧ ForcedCause.time ∈ (requested emptyWindow .time).requests
        ∧ ForcedCause.interval ∈ (requested emptyWindow .interval).requests ∧ emptyWindow.opening = none)
      ∧ ((requested (heldWindow meter 1) .interval).Ready
        ∧ ForcedCause.interval ∈ (requested (heldWindow meter 1) .interval).requests
        ∧ (requested (heldWindow meter 1) .interval).tables.anyRequest = false)
      ∧ (let s := applying (requested (heldWindow meter 1) .time);
          s.Ready ∧ s.tables.anyRequest = true ∧ s.engine.state = .metering)
      ∧ ({ loaded meter with requests := [.time] } : State).engine.state = .config
      ∧ ({ loaded meter with requests := [.time] } : State).Ready := by
  unfold State.Ready
  decide +kernel

/-- Section 6.7: the engine may take the SWITCH of a SET TIME before its TIME. -/
theorem test_switch_taken_before_time :
    (after (.forcedCloseRequest .switch) { running meter (heldWindow meter 1) with requests := [.time, .switch] }).map
        (fun t => (t.requests, t.engine.summary.cause)) = some ([.time], some .switch) := by
  decide +kernel

theorem witness_NettingConservesEnergy :
    ∀ x, (workedSums.get x).energy = ((workedSums.get x).grossImp : Int) - (workedSums.get x).grossExp := by
  rw [forall_phase]
  decide

/-- R71: phase C, whose gross flow lies below the creep energy, is discarded under GROSS; R70: an energy equal to the creep energy
is not. -/
theorem test_creep_discards_below_and_not_at :
    net .gross 1200000000001 workedSums = ⟨2600000000000 + 400000000000, 100000000000 + 9400000000000, 1200000000000⟩
      ∧ net .phase 1200000000000 workedSums = ⟨3700000000000, 9000000000000, 0⟩
      ∧ net .sum 5300000000001 workedSums = ⟨0, 0, -5300000000000⟩ := by
  decide

theorem witness_ExportCheckTripsAfterItsRun :
    workedMeter.Installed ∧ workedMeter.expTrip ≠ 0 ∧ workedMeter.expTrip * 4000 < 9000000000000
      ∧ workedMeter.expWarn * 4000 < 6000000000000 ∧ 6000000000000 ≤ workedMeter.expTrip * 4000
      ∧ 3900000000000 ≤ workedMeter.expWarn * 4000 := by
  unfold Meter.Installed
  decide

theorem witness_StartBeginsMetering :
    ((asked (loaded meter) 0x10 []).Executes 0x10 [] [] ∧ (loaded meter).engine.state = .config
        ∧ (loaded meter).tables.calActive.isSome = true ∧ (loaded meter).tables.meterActive = some meter
        ∧ meter.demandMode ≤ 3)
      ∧ ((asked metering 0x10 []).Executes 0x10 [] [] ∧ metering.engine.state ≠ .config)
      ∧ (asked idle 0x10 []).Executes 0x10 [] [] ∧ idle.tables.calActive = none := by
  unfold State.Executes State.Ready
  decide +kernel

theorem witness_StopEntersConfig :
    ((asked idle 0x11 []).Executes 0x11 [] [] ∧ idle.MonitorLaw ∧ idle.tables.anyRequest = false
        ∧ idle.engine.state = .config)
      ∧ (asked (applying metering) 0x11 []).Executes 0x11 [] [] ∧ (applying metering).tables.anyRequest = true
      ∧ (applying metering).MonitorLaw
      ∧ (asked metering 0x11 []).Executes 0x11 [] [] ∧ metering.MonitorLaw ∧ metering.engine.window = some emptyWindow
      ∧ emptyWindow.opening = none ∧ metering.engine.state ≠ .config := by
  unfold State.Executes State.Ready State.MonitorLaw
  decide +kernel

theorem witness_StopClosesTheOpenWindow :
    (asked (running meter (heldWindow meter 1)) 0x11 []).Executes 0x11 [] []
      ∧ (running meter (heldWindow meter 1)).tables.anyRequest = false
      ∧ (running meter (heldWindow meter 1)).engine.state = .metering
      ∧ (asked (applying (running meter (heldWindow meter 1))) 0x11 []).Executes 0x11 [] []
      ∧ (heldWindow meter 1).opening = some ⟨0, 0, meter⟩ := by
  unfold State.Executes State.Ready
  decide +kernel

theorem witness_ResumeLeavesFailsafe :
    ((asked failsafe 0x12 []).Executes 0x12 [] [] ∧ failsafe.MonitorLaw ∧ failsafe.engine.state = .failsafe)
      ∧ (asked metering 0x12 []).Executes 0x12 [] [] ∧ metering.MonitorLaw ∧ metering.engine.state ≠ .failsafe := by
  unfold State.Executes State.Ready State.MonitorLaw
  decide +kernel

theorem witness_EngineResetRestoresTheBlocks : (asked failsafe 0x13 []).Executes 0x13 [] [] := by
  unfold State.Executes State.Ready
  decide +kernel

/-! ### Register bank and calendar -/

theorem witness_ChainConservesEnergy :
    ∀ p ∈ [(1000000000000, 3700000000000), (250000000000, 0)], 0 < p.1 := by decide

/-- A bank whose gross import register of phase B stands at its top, with residue 1. -/
def atTop : State :=
  { idle with bank := { idle.bank with accounts :=
      { idle.bank.accounts with
        gross := ⟨⟨0, 0⟩, ⟨2 ^ 48 - 1, 0⟩, ⟨0, 0⟩⟩, grossResidue := ⟨⟨0, 0⟩, ⟨1, 0⟩, ⟨0, 0⟩⟩ } } }

theorem witness_ChainConservesEnergy_rollover :
    atTop.bank.accounts.Wraps (2 ^ 16) 3 ⟨0, 0⟩ ⟨⟨0, 0⟩, ⟨65535, 0⟩, ⟨0, 0⟩⟩
      ∧ ¬ atTop.bank.accounts.Wraps (2 ^ 16) 3 ⟨0, 0⟩ ⟨⟨0, 0⟩, ⟨65534, 0⟩, ⟨0, 0⟩⟩ := by
  refine ⟨Or.inr (Or.inr ⟨.b, Or.inl (by decide)⟩), ?_⟩
  rintro (h | h | ⟨x, h⟩)
  · exact absurd h (by decide)
  · exact absurd h (by decide)
  · cases x <;> exact absurd h (by decide)

/-- The parameters of a PRELOAD of value 2^48 − 1. -/
def preloadBytes (cls index : Byte) : List Byte := [cls, index, 0, 0, 0xFF, 0xFF, 0xFF, 0xFF, 0xFF, 0xFF]

theorem witness_PreloadReplacesOneRegister :
    ((asked idle 0x23 (preloadBytes 0 7)).Executes 0x23 (preloadBytes 0 7) [] ∧ (preloadBytes 0 7).length = 10
        ∧ beNat ((preloadBytes 0 7).drop 2) = 281474976710655 ∧ idle.engine.state = .config)
      ∧ (asked idle 0x23 (preloadBytes 1 0)).Executes 0x23 (preloadBytes 1 0) []
      ∧ (asked idle 0x23 (preloadBytes 2 2)).Executes 0x23 (preloadBytes 2 2) [] ∧ (2#8).toNat = phaseNumber .c
      ∧ (asked idle 0x23 (preloadBytes 3 0)).Executes 0x23 (preloadBytes 3 0) []
      ∧ (asked idle 0x23 (preloadBytes 4 0)).Executes 0x23 (preloadBytes 4 0) []
      ∧ (asked metering 0x23 (preloadBytes 0 7)).Executes 0x23 (preloadBytes 0 7) [] ∧ metering.engine.state ≠ .config := by
  unfold State.Executes State.Ready
  decide +kernel

theorem witness_SnapshotCopiesOneMoment :
    (asked idle 0x21 []).Executes 0x21 [] [] ∧ (asked metering 0x21 []).Executes 0x21 [] []
      ∧ metering.tables.meterActive = some meter ∧ metering.engine.window = some emptyWindow := by
  unfold State.Executes State.Ready
  decide +kernel

/-- A CALENDAR table whose profile 1 has two used points, at minutes 60 and 600. -/
def tariff : CalendarTable :=
  { calendarTableAtPowerOn with
    points := List.replicate 12 ⟨0xFFFF, 0⟩ ++ [⟨60, 4⟩, ⟨600, 6⟩] ++ List.replicate 82 ⟨0xFFFF, 0⟩ }

/-- The clock set at minute `minute` of a special day of profile 1, under `tariff`. -/
def onTariff (minute : Nat) : State :=
  { withDays with
    calendar := { withDays.calendar with minute := minute }
    tables := { withDays.tables with calendarActive := some tariff } }

theorem witness_EvaluationFindsTheBandInForce :
    (onTariff 600).bandNow = (6, .profile) ∧ (onTariff 59).bandNow = (6, .profile) ∧ (onTariff 599).bandNow = (4, .profile)
      ∧ (onTariff 60).engine.state ≠ .failsafe ∧ (onTariff 60).calendar.clockSet = true
      ∧ (onTariff 60).tables.calendarActive = some tariff
      ∧ (∀ d ∈ (onTariff 60).calendar.specialDays, d.day = (onTariff 60).calendar.day → d = ⟨4, 1⟩)
      ∧ ((tariff.points.drop (12 * 1)).take 12).filter (fun p => p.minute != 65535) = [⟨60, 4⟩, ⟨600, 6⟩]
      ∧ idle.calendar.clockSet = false ∧ idle.tables.meterActive = none
      ∧ withDays.tables.calendarActive = none ∧ failsafe.engine.state = .failsafe
      ∧ ({ meter with failsafeBand := 7 } : Meter).failsafeBand < 8 ∧ meter.failsafeBand = 8 ∧ meter.unsetBand ≤ 7 := by
  decide +kernel

/-- FAILSAFE under the clock and the calendar of `onTariff`, with FAILSAFE_BAND 8. -/
def failsafeOnTariff : State :=
  { onTariff 600 with
    engine := failsafe.engine, tables := { (onTariff 600).tables with meterActive := some meter } }

theorem witness_EvaluationFindsTheBandInForce_failsafe :
    (failsafeOnTariff.engine.state = .failsafe ∧ failsafeOnTariff.tables.meterActive = some meter ∧ meter.failsafeBand = 8)
      ∧ failsafeOnTariff.calendar.clockSet = true ∧ failsafeOnTariff.tables.calendarActive = some tariff
      ∧ failsafeOnTariff.bandNow = (6, .profile) := by
  decide +kernel

/-- The parameters of SET TIME: day 10, minute 1439 or 1440, strobe count 0. -/
def timeBytes (low : Byte) : List Byte := [0, 10, 5, low, 0, 0, 0]

theorem witness_SetTimeLoadsTheClock :
    (asked withDays 0x30 (timeBytes 0x9F)).Executes 0x30 (timeBytes 0x9F) [] ∧ (timeBytes 0x9F).length = 7
      ∧ withDays.calendar.specialDays.Pairwise (fun d e => d.day < e.day)
      ∧ beNat (((timeBytes 0x9F).drop 2).take 2) = 1439
      ∧ (asked withDays 0x30 (timeBytes 0xA0)).Executes 0x30 (timeBytes 0xA0) []
      ∧ beNat (((timeBytes 0xA0).drop 2).take 2) = 1440 := by
  unfold State.Executes State.Ready
  decide +kernel

/-- The clock at a minute, with `strobes` strobes counted. -/
def clockAt (minute strobes : Nat) : State :=
  { withDays with calendar := { withDays.calendar with minute := minute, strobeCount := strobes } }

/-- An aligned table with intervals of 15 minutes. -/
def alignedMeter : Meter := { meter with demandMode := 0, di := 15 }

theorem witness_MinuteRolloverAdvancesTheClock :
    ((clockAt 0 239999).resetApplied = false ∧ (clockAt 0 239999).calendar.strobeCount < 240000)
      ∧ 240000 ≤ (clockAt 1439 240000).calendar.strobeCount ∧ (clockAt 1439 240000).calendar.minute = 1439
      ∧ (clockAt 1439 240000).calendar.specialDays.Pairwise (fun d e => d.day < e.day)
      ∧ (let s : State := { clockAt 14 240000 with
          tables := (loaded alignedMeter).tables, demand := { demandAtPowerOn with state := .running } };
        s.demandMode = .aligned ∧ s.calendar.clockSet = true ∧ (14 + 1) % s.demandMinutes = 0 ∧ s.demand.state = .running) := by
  decide +kernel

theorem witness_SpecialDayListIsEdited :
    ((asked withDays 0x32 [0, 9, 7]).Executes 0x32 [0, 9, 7] [] ∧ beNat [0, 9] = 9 ∧ beNat [7] = 7
        ∧ withDays.calendar.day ≤ 9 ∧ ∃ e ∈ withDays.calendar.specialDays, e.day = 9)
      ∧ ((asked withDays 0x32 [0, 3, 0]).Executes 0x32 [0, 3, 0] [] ∧ 3 < withDays.calendar.day)
      ∧ ((asked withDays 0x32 [0, 5, 8]).Executes 0x32 [0, 5, 8] [] ∧ 7 < beNat [8])
      ∧ ((asked withDays 0x32 [0, 5, 0]).Executes 0x32 [0, 5, 0] [] ∧ (∀ e ∈ withDays.calendar.specialDays, e.day ≠ 5)
        ∧ withDays.calendar.specialDays.length < 16)
      ∧ (let l := (List.range 16).map (fun n => (⟨n + 20, 0⟩ : SpecialDay));
        l.Pairwise (fun d e => d.day < e.day) ∧ (∀ e ∈ l, e.day ≠ 5) ∧ 16 ≤ l.length)
      ∧ (asked withDays 0x33 [0, 4]).Executes 0x33 [0, 4] [] ∧ (∃ e ∈ withDays.calendar.specialDays, e.day = 4)
      ∧ (asked withDays 0x33 [0, 5]).Executes 0x33 [0, 5] [] := by
  unfold State.Executes State.Ready
  decide +kernel

/-! ### Demand unit -/

/-- METERING with a credit on its way and the interval in the state `st`. -/
def crediting (m : Meter) (st : IntervalState) (mark : Bool) : State :=
  { running m emptyWindow with
    credits := [{ quanta := ⟨4, 9⟩, band := 4, intervalEnd := mark }]
    demand := { demandAtPowerOn with state := st, sums := ⟨10, 2⟩ } }

/-- The table `meter` in the demand mode `n`. -/
def mode (n : Nat) : Meter := { meter with demandMode := n }

theorem witness_DemandCreditByIntervalState :
    (crediting (mode 1) .idle false).Ready ∧ (crediting (mode 1) .running true).Ready
      ∧ (crediting (mode 1) .ending false).Ready ∧ (crediting (mode 2) .done true).Ready
      ∧ (crediting (mode 1) .ending true).Ready ∧ (crediting (mode 1) .ending true).demandMode = .free
      ∧ (crediting (mode 0) .ending true).Ready ∧ (crediting (mode 0) .ending true).demandMode = .aligned
      ∧ (crediting (mode 0) .ending true).calendar.clockSet = false
      ∧ (crediting (mode 2) .ending true).Ready ∧ (crediting (mode 2) .ending true).demandMode = .oneShot
      ∧ (crediting (mode 2) .ending true).demand.restartPending = false := by
  unfold State.Ready
  decide +kernel

/-- The interval counter's terminal count is due. -/
def terminal (st : IntervalState) : State :=
  { running (mode 1) emptyWindow with demand := { demandAtPowerOn with state := st, terminal := true } }

theorem witness_TerminalCountEndsTheInterval :
    metering.resetApplied = false ∧ metering.demand.terminal = false ∧ (terminal .running).demand.terminal = true
      ∧ (terminal .running).demand.state = .running ∧ (terminal .done).demand.state ≠ .running := by
  decide

/-- METERING with a notice of a SET TIME and the interval in the state `st`. -/
def noticed (n : Nat) (st : IntervalState) : State :=
  { running (mode n) emptyWindow with timeNotices := [14], demand := { demandAtPowerOn with state := st } }

theorem witness_SetTimeNoticeAbandonsAnAlignedInterval :
    metering.Ready ∧ metering.timeNotices = [] ∧ (noticed 0 .running).Ready ∧ (noticed 0 .running).timeNotices = 14 :: []
      ∧ (noticed 0 .running).demandMode = .aligned ∧ (noticed 0 .running).engine.state ≠ .config
      ∧ (noticed 0 .running).demand.state = .running ∧ (noticed 1 .running).Ready
      ∧ (noticed 1 .running).demandMode ≠ .aligned := by
  unfold State.Ready
  decide +kernel

theorem witness_ResetDemandCopiesAndClears :
    ((asked metering 0x39 []).Executes 0x39 [] [] ∧ metering.demandMode ≠ .oneShot)
      ∧ ((asked (noticed 2 .ending) 0x39 []).Executes 0x39 [] [] ∧ (noticed 2 .ending).demandMode = .oneShot
        ∧ (noticed 2 .ending).demand.state = .ending)
      ∧ (asked (noticed 2 .done) 0x39 []).Executes 0x39 [] [] ∧ (noticed 2 .done).demand.state = .done := by
  unfold State.Executes State.Ready
  decide +kernel

/-! ### Table store -/

/-- Every pending copy is the power-on one, and no CALENDAR table is active. -/
theorem tableLaw_of (s : State) (h : s.tables = (loaded meter).tables) : s.TableLaw := by
  have law := held_billing.1
  unfold State.TableLaw at law ⊢
  rw [h]
  exact law

theorem witness_WriteAndCancelActOnThePendingCopy :
    (loaded meter).TableLaw
      ∧ ((asked (loaded meter) 0x41 (3 :: 3 :: [1, 0, 0, 0, 0])).Executes 0x41 (TableName.trigger.number :: 3 :: [1, 0, 0, 0, 0]) []
        ∧ [1, 0, 0, 0, 0].length = TableName.trigger.offset ((3#8).toNat + 1) - TableName.trigger.offset (3#8).toNat
        ∧ (3#8).toNat + 1 - 1 ≤ 3 ∧ (loaded meter).capture.state = .idle)
      ∧ ((asked (loaded meter) 0x41 (2 :: 95 :: [0, 0, 0, 7])).Executes 0x41 (TableName.calendar.number :: 95 :: [0, 0, 0, 7]) []
        ∧ [0, 0, 0, 7].length = TableName.calendar.offset ((95#8).toNat + 2) - TableName.calendar.offset (95#8).toNat)
      ∧ (asked (loaded meter) 0x41 (1 :: 21 :: List.replicate 8 0)).Executes 0x41 (TableName.meter.number :: 21 :: List.replicate 8 0) []
      ∧ 20 < (21#8).toNat + 1 - 1
      ∧ (asked (loaded meter) 0x41 (0 :: 0 :: [1])).Executes 0x41 (TableName.cal.number :: 0 :: [1]) []
      ∧ (asked (loaded meter) 0x41 [4, 0, 0]).Executes 0x41 [4, 0, 0] [] ∧ 3 < (4#8).toNat
      ∧ (asked (loaded meter) 0x41 [0, 0]).Executes 0x41 [0, 0] []
      ∧ (asked (loaded meter) 0x43 [0]).Executes 0x43 [0] [] ∧ (loaded meter).tables.request .cal = false
      ∧ ({ loaded meter with tables := { (loaded meter).tables with calRequest := true } } : State).tables.request .cal = true := by
  refine ⟨tableLaw_of _ rfl, ?_⟩
  unfold State.Executes State.Ready
  decide +kernel

/-- The CRC of the power-on pending copy of a table. -/
def pendingCrc (name : TableName) : BitVec 16 := crc16 (image ((loaded meter).tables.pendingEntries name))

/-- The parameters of an APPLY TABLE of that copy. -/
def applyBytes (name : TableName) : List Byte :=
  [name.number, (pendingCrc name).extractLsb' 8 8, (pendingCrc name).extractLsb' 0 8]

theorem witness_ApplyTableChecksAndInstalls :
    ((loaded meter).TableLaw ∧ (loaded meter).MonitorLaw ∧ metering.TableLaw ∧ metering.MonitorLaw ∧ failsafe.TableLaw
        ∧ failsafe.MonitorLaw)
      ∧ ((asked (loaded meter) 0x42 (applyBytes .meter)).Executes 0x42 (applyBytes .meter) []
        ∧ (pendingCrc .meter).extractLsb' 8 8 ++ (pendingCrc .meter).extractLsb' 0 8 = pendingCrc .meter
        ∧ (loaded meter).engine.state = .config ∧ (loaded meter).tables.pendingFault .meter = none
        ∧ (loaded meter).tables.meterPending.clamped = (loaded meter).tables.meterPending)
      ∧ ((asked (loaded meter) 0x42 (applyBytes .calendar)).Executes 0x42 (applyBytes .calendar) []
        ∧ (loaded meter).tables.pendingFault .calendar = none)
      ∧ (asked metering 0x42 (applyBytes .cal)).Executes 0x42 (applyBytes .cal) [] ∧ metering.engine.state = .metering
      ∧ (asked failsafe 0x42 [0, 0, 0]).Executes 0x42 [0, 0, 0] [] ∧ failsafe.engine.state = .failsafe
      ∧ (asked (loaded meter) 0x42 [3, 0, 0]).Executes 0x42 [3, 0, 0] []
      ∧ (asked (loaded meter) 0x42 [0, 0, 0]).Executes 0x42 [0, 0, 0] []
      ∧ (0#8 ++ 0#8 : BitVec 16) ≠ crc16 (image ((loaded meter).tables.pendingEntries .cal)) := by
  refine ⟨⟨tableLaw_of _ rfl, ?_, tableLaw_of _ rfl, ?_, tableLaw_of _ rfl, ?_⟩, ⟨⟨⟨rfl, ?_⟩, rfl, ?_⟩, ?_, ?_⟩,
    ⟨⟨⟨rfl, ?_⟩, rfl, ?_⟩, ?_⟩, ?_⟩
  · unfold State.MonitorLaw; decide +kernel
  · unfold State.MonitorLaw; decide +kernel
  · unfold State.MonitorLaw; decide +kernel
  · decide +kernel
  · decide +kernel
  · generalize pendingCrc .meter = c
    apply BitVec.eq_of_getLsbD_eq
    intro i hi
    rw [BitVec.getLsbD_append, BitVec.getLsbD_extractLsb', BitVec.getLsbD_extractLsb']
    split
    · rename_i h
      simp [h]
    · rename_i h
      have h1 : i - 8 < 8 := by omega
      have h2 : 8 + (i - 8) = i := by omega
      simp [h1, h2]
  · decide +kernel
  · decide +kernel
  · decide +kernel
  · decide +kernel
  · unfold State.Executes State.Ready
    decide +kernel

/-- A CALENDAR copy whose profile 0 has its points at minutes 60 and 60. -/
def repeated : CalendarTable :=
  { calendarTableAtPowerOn with points := [⟨60, 4⟩, ⟨60, 6⟩] ++ List.replicate 94 ⟨0xFFFF, 0⟩ }

theorem witness_StructureFaultsOfThePendingCopies :
    (loaded meter).tables.calendarPending.week.length = 7
      ∧ (repeated.points.length = 96 ∧ repeated.week.length = 7 ∧ repeated.fault = some (1, .outOfOrder))
      ∧ repeated.points[1]? = some ⟨60, 6⟩ ∧ repeated.points[0]? = some ⟨60, 4⟩
      ∧ ({ (loaded meter).tables with meterPending := { meter with lanes := 8 } } : Tables).pendingFault .meter
        = some (0, .badValue) := by
  decide +kernel

theorem witness_ClampedImageIsInstalled :
    (loaded meter).tables.pendingFault .meter = none ∧ meter.Installed ∧ alignedMeter.demandMode = 0
      ∧ (15 ≤ max 1 (min 60 alignedMeter.di) ∧ 1440 % 15 = 0) ∧ meter.demandMode ≠ 0 := by
  unfold Meter.Installed
  decide +kernel

/-! ### Flags and watchdog -/

theorem witness_ClearFlagsAndSetMask :
    ((asked idle 0x49 [1, 0, 0, 0, 0, 1]).Executes 0x49 [1, 0, 0, 0, 0, 1] []
        ∧ (asked idle 0x4A [1, 0, 0, 0, 0, 1]).Executes 0x4A [1, 0, 0, 0, 0, 1] []
        ∧ ∀ k, 41 ≤ k → (1#8 ++ 0#8 ++ 0#8 ++ 0#8 ++ 0#8 ++ 1#8 : FlagSet).getLsbD k = false)
      ∧ (asked idle 0x49 [0, 0, 0, 0, 0, 2]).Executes 0x49 [0, 0, 0, 0, 0, 2] []
      ∧ (asked idle 0x4A [0, 0, 0, 0, 0, 2]).Executes 0x4A [0, 0, 0, 0, 0, 2] []
      ∧ ∃ k, 41 ≤ k ∧ (2#8 ++ 0#8 ++ 0#8 ++ 0#8 ++ 0#8 ++ 0#8 : FlagSet).getLsbD k = true := by
  refine ⟨⟨?_, ?_, fun k hk => ?_⟩, ?_, ?_, 41, by decide, by decide⟩
  · unfold State.Executes State.Ready; decide +kernel
  · unfold State.Executes State.Ready; decide +kernel
  · by_cases h : k < 48
    · have : k = 41 ∨ k = 42 ∨ k = 43 ∨ k = 44 ∨ k = 45 ∨ k = 46 ∨ k = 47 := by omega
      rcases this with rfl | rfl | rfl | rfl | rfl | rfl | rfl <;> decide
    · exact BitVec.getLsbD_of_ge _ _ (by omega)
  · unfold State.Executes State.Ready; decide +kernel
  · unfold State.Executes State.Ready; decide +kernel

/-- The watchdog has expired in METERING. -/
def expired : State :=
  { metering with monitor := { metering.monitor with watchdogRunning := true, watchdogCount := 8000, expired := true } }

theorem witness_WatchdogExpiryEntersFailsafe :
    (expired.Ready ∧ metering.Ready ∧ expired.MonitorLaw ∧ expired.monitor.watchdogRunning = true
        ∧ expired.monitor.expired = true ∧ expired.engine.state = .metering)
      ∧ metering.MonitorLaw ∧ metering.monitor.watchdogRunning = false := by
  unfold State.Ready State.MonitorLaw
  decide +kernel

/-! ### Meter link -/

theorem witness_DownlinkFramesActByTheirKind :
    (idle.Ready ∧ idle.expiryDue = false ∧ expired.Ready ∧ expired.expiryDue = true ∧ idle.link.downlink = .idle ∧ idle.link.commands.length < 4)
      ∧ ((downlinkFrame 1 [0x10]).stopBits = true ∧ (downlinkFrame 1 [0x10]).chars
          = 1 :: 1 :: [0x10] ++ [(crc16 [1, 1, 0x10]).extractLsb' 8 8, (crc16 [1, 1, 0x10]).extractLsb' 0 8])
      ∧ ((downlinkFrame 2 []).chars
          = 2 :: 0 :: [] ++ [(crc16 [2, 0]).extractLsb' 8 8, (crc16 [2, 0]).extractLsb' 0 8])
      ∧ ((downlinkFrame 3 []).chars
          = 3 :: 0 :: [] ++ [(crc16 [3, 0]).extractLsb' 8 8, (crc16 [3, 0]).extractLsb' 0 8])
      ∧ (⟨[1, 0, 0], true⟩ : LineFrame).chars.length < 4
      ∧ State.reset.link.downlink = .waitingForIdle ∧ State.reset.Ready
      ∧ 4 ≤ ({ idle.link with commands := List.replicate 4 [0x10] } : Link).commands.length := by
  unfold State.Ready
  decide +kernel

/-- A response of `n` data bytes. -/
def answer (n : Nat) : Response := { code := 0x14, status := .ok, data := List.replicate n 0 }

theorem witness_SchedulerServesTheFirstEligibleSource :
    idle.Ready ∧ idle.link.urgent = none ∧ idle.link.rotation = [] ++ .response :: [.report, .capture]
      ∧ ({ idle with link := { idle.link with responses := [answer 118, answer 119] } } : State).Ready
      ∧ (answer 118).data.length ≤ 118 ∧ 118 < (answer 119).data.length
      ∧ idle.link.rotation = [.response] ++ .report :: [.capture] ∧ idle.link.rotation = [.response, .report] ++ .capture :: []
      ∧ idle.link.paused = false
      ∧ ({ idle with link := { idle.link with reports := [summaryAtPowerOn] } } : State).Ready
      ∧ (idle.raise .failsafe).Ready ∧ (idle.raise .failsafe).link.urgent.isSome = true := by
  unfold State.Ready
  decide +kernel

theorem witness_CommandsWaitAndAreCheckedForLength :
    (Instr.readBank.fixedCommand = some (0x20, 1) ∧ (asked idle 0x20 []).Executes 0x20 [] [] ∧ ([] : List Byte).length ≠ 1)
      ∧ (idle.Ready ∧ idle.link.commands = [])
      ∧ ((asked idle 0xFF []).Executes 0xFF [] [] ∧ (0xFF#8) ≠ 0x41#8)
      ∧ 4 ≤ (List.replicate 4 (answer 0)).length := by
  unfold State.Executes State.Ready
  decide +kernel

theorem witness_unknown_code : ∀ (d : Instr) (m : Nat), Instr.fixedCommand d ≠ some (0xFF#8, m) := by
  intro d m h
  cases d <;> simp [Instr.fixedCommand] at h

theorem witness_StatusReadsGiveTheValuesThatStand :
    ((asked idle 0x01 []).Executes 0x01 [] [] ∧ (asked idle 0x15 []).Executes 0x15 [] []
        ∧ (asked idle 0x53 []).Executes 0x53 [] [])
      ∧ ((asked idle 0x14 []).Executes 0x14 [] [] ∧ idle.engine.window = none)
      ∧ (asked (running meter (heldWindow meter 1)) 0x14 []).Executes 0x14 [] [] ∧ (asked metering 0x14 []).Executes 0x14 [] []
      ∧ ((asked metering 0x48 []).Executes 0x48 [] [] ∧ metering.tables.meterActive = some meter)
      ∧ ((asked idle 0x48 []).Executes 0x48 [] [] ∧ idle.tables.meterActive = none)
      ∧ (asked idle 0x5A [2]).Executes 0x5A [2] [] ∧ (2#8).toNat = phaseNumber .c
      ∧ (asked idle 0x5A [3]).Executes 0x5A [3] [] ∧ 2 < (3#8).toNat := by
  unfold State.Executes State.Ready
  decide +kernel

theorem witness_PagedReadsGiveTheValuesThatStand :
    ((asked idle 0x20 [2]).Executes 0x20 [2] [] ∧ (asked idle 0x20 [3]).Executes 0x20 [3] [])
      ∧ ((asked idle 0x22 [0]).Executes 0x22 [0] [] ∧ (asked idle 0x22 [3]).Executes 0x22 [3] []
        ∧ (asked idle 0x22 [4]).Executes 0x22 [4] [])
      ∧ ((asked metering 0x38 [0]).Executes 0x38 [0] [] ∧ metering.tables.meterActive = some meter ∧ meter.demandMode ≤ 3
        ∧ (asked idle 0x38 [4]).Executes 0x38 [4] [] ∧ (asked idle 0x38 [5]).Executes 0x38 [5] [])
      ∧ ((asked (onTariff 60) 0x31 []).Executes 0x31 [] []
        ∧ (onTariff 60).calendar.specialDays = [] ++ ⟨4, 1⟩ :: [⟨9, 7⟩] ∧ (onTariff 60).calendar.day = 4)
      ∧ (asked withDays 0x34 []).Executes 0x34 [] [] := by
  unfold State.Executes State.Ready
  decide +kernel

theorem witness_PagedReads_withoutTables :
    ((asked idle 0x38 [0]).Executes 0x38 [0] [] ∧ idle.tables.meterActive = none)
      ∧ ((asked withDays 0x31 []).Executes 0x31 [] [] ∧ withDays.tables.calendarActive = none
        ∧ withDays.calendar.specialDays = [] ++ ⟨4, 1⟩ :: [⟨9, 7⟩] ∧ withDays.calendar.day = 4)
      ∧ ((asked idle 0x31 []).Executes 0x31 [] [] ∧ idle.tables.calendarActive = none ∧ idle.calendar.specialDays = []) := by
  unfold State.Executes State.Ready
  decide +kernel

theorem witness_PagedReads_table :
    (loaded meter).TableLaw
      ∧ (asked (loaded meter) 0x40 [1, 0, 7, 14]).Executes 0x40 [1, 0, 7, 14] []
      ∧ ¬ 112 < TableName.meter.offset ((7#8).toNat + (14#8).toNat) - TableName.meter.offset (7#8).toNat
      ∧ (asked (loaded meter) 0x40 [0, 1, 0, 3]).Executes 0x40 [0, 1, 0, 3] []
      ∧ (loaded meter).tables.activeEntries .cal = some (calEntries (.all calUnity))
      ∧ (asked (loaded meter) 0x40 [2, 1, 103, 1]).Executes 0x40 [2, 1, 103, 1] []
      ∧ (loaded meter).tables.activeEntries .calendar = none
      ∧ (asked (loaded meter) 0x40 [1, 0, 20, 2]).Executes 0x40 [1, 0, 20, 2] []
      ∧ 20 < (20#8).toNat + (2#8).toNat - 1 := by
  refine ⟨tableLaw_of _ rfl, ?_⟩
  unfold State.Executes State.Ready
  decide +kernel

/-! ### Capture and lane test -/

theorem witness_CaptureCommandsMoveTheUnit :
    ((asked idle 0x50 [2, 0x0F, 0xFF, 1, 0]).Executes 0x50 [2, 0x0F, 0xFF, 1, 0] [] ∧ idle.capture.state = .idle
        ∧ captureModeCode .stream = 2 ∧ (0x0F#8 ++ 0xFF#8 : BitVec 16).toNat = 4095
        ∧ (1#8 ++ 0#8 : BitVec 16).toNat = 256)
      ∧ ((asked idle 0x50 [0, 0x10, 0, 0, 1]).Executes 0x50 [0, 0x10, 0, 0, 1] []
        ∧ 4095 < (0x10#8 ++ 0#8 : BitVec 16).toNat)
      ∧ (asked failsafe 0x50 [0, 0, 0, 0, 1]).Executes 0x50 [0, 0, 0, 0, 1] []
      ∧ (asked idle 0x51 []).Executes 0x51 [] [] ∧ (asked (capturing .armed 0) 0x51 []).Executes 0x51 [] []
      ∧ (asked idle 0x52 []).Executes 0x52 [] [] ∧ (asked (capturing .armed 0) 0x52 []).Executes 0x52 [] [] := by
  unfold State.Executes State.Ready
  decide +kernel

/-- A TEST frame (kind 5) of lane A for strobe `n`, with 48 zero bits. -/
def testFrame (n : Byte) : LineFrame := laneFrame [0xA8, 0, n, 0, 0, 0, 0, 0, 0]

/-- What the integrity step of R3 reads from it. -/
def readTest (n : StrobeIndex) : UpLaneFrame :=
  { kind := 5, lane := 1, vOvr := false, iOvr := false, restart := false, vFault := false, iFault := false, index := n
    v := 0, i := 0, data := 0 }

/-- Lane A in TEST with its checker in the state `st`, strobe 6 the latest. -/
def testing (st : CheckerState) (bad : Nat) : State :=
  { strobed .test with checkers := .all { checkerAtPowerOn with state := st, expected := some 5, badRun := bad } }

theorem witness_TestFramesByTheCheckerState :
    ((testing .seeding 0).Ready ∧ (testing .hunting 0).Ready ∧ (testing .synced 3).Ready)
      ∧ (parseLaneFrame (testFrame 5) = some (readTest 5) ∧ parseLaneFrame (testFrame 6) = some (readTest 6)
        ∧ parseLaneFrame (testFrame 7) = some (readTest 7) ∧ parseLaneFrame (testFrame 8) = some (readTest 8))
      ∧ (6#12 - 5#12).toNat ≤ 2 ∧ 3 ≤ (6#12 - 3#12).toNat ∧ (testing .synced 3).MonitorLaw := by
  unfold State.Ready State.MonitorLaw
  decide +kernel

/-- R179: a seed three strobes behind (strobe 6, index 3) meets deadlines from strobe 4 on: 5 is the next index to come (log 30). -/
theorem test_late_seed_meets_deadlines :
    (after (.upDirectionFrame .a (testFrame 3)) (testing .seeding 0)).map
      (fun t => ((t.checkers.get .a).state, (t.checkers.get .a).expected)) = some (.hunting, some 5) := by
  decide +kernel

/-- R178: a seed one strobe ahead (strobe 6, index 7) expects 8 next, as a seed one strobe behind (index 5) expects 6 (log 30). -/
theorem test_seed_out_of_step :
    [testFrame 7, testFrame 5].map (fun f =>
      (after (.upDirectionFrame .a f) (testing .seeding 0)).map (fun t => (t.checkers.get .a).expected))
      = [some (some 8), some (some 6)] := by
  decide +kernel

/-- Parameters of LINK TEST START for lane C: FIXED, inverted, sync mask clear, 2^24, limit code 0A3h. -/
def testBytes : List Byte := [2, 1, 1, 0, 3, 0xA3, 1, 2, 3, 4, 5, 6]

theorem witness_LaneTestBeginsEndsAndJudges :
    ((asked idle 0x58 testBytes).Executes 0x58 testBytes [] ∧ idle.MonitorLaw ∧ idle.engine.state = .config
        ∧ (2#8).toNat = phaseNumber .c ∧ patternCode .fixed = 1 ∧ timebaseCode .pow24 = 3
        ∧ (idle.lanes.get .c).state ≠ .test)
      ∧ ((asked (strobed .test) 0x58 testBytes).Executes 0x58 testBytes [] ∧ ((strobed .test).lanes.get .c).state = .test)
      ∧ (asked metering 0x58 testBytes).Executes 0x58 testBytes []
      ∧ (asked idle 0x58 (3 :: testBytes.drop 1)).Executes 0x58 (3 :: testBytes.drop 1) []
      ∧ ((asked (strobed .test) 0x59 [2]).Executes 0x59 [2] [] ∧ (strobed .test).MonitorLaw
        ∧ (strobed .test).aligner.latest = some 6 ∧ (strobed .test).enabled .c = true)
      ∧ (asked idle 0x59 [2]).Executes 0x59 [2] [] ∧ (asked idle 0x59 [3]).Executes 0x59 [3] []
      ∧ (let c := { checkerAtPowerOn with timebase := Timebase.pow16, timebaseCount := 65536, running := 1 };
        65536 ≤ c.timebaseCount ∧ (c.limitCode.toNat / 8) * 4 ^ (c.limitCode.toNat % 8) < c.running ∧ c.failMark = false) := by
  unfold State.Executes State.Ready State.MonitorLaw
  decide +kernel

end Sys2Proof.Tests
end

/-! # RESUME: the netting engine's flags, reports that change nothing, and the step itself -/

namespace Sys2Proof.Machine

/-! ### Flag sets (section 9.2) -/

theorem phaseNumber_lt (x : Phase) : phaseNumber x < 3 := by cases x <;> decide

theorem Flag.index_lt (f : Flag) : f.index < 48 := by
  cases f with
  | laneLost x | laneSuspect x | laneResync x | feRestart x | vStuck x | iStuck x | overrange x | lowVoltage x
  | linkTestFail x =>
    have hx := phaseNumber_lt x
    simp only [Flag.index]
    omega
  | _ => decide

theorem Flag.getLsbD_bit (f : Flag) (i : Nat) : f.bit.getLsbD i = decide (i = f.index) := by
  have hf := f.index_lt
  rw [Bool.eq_iff_iff]
  simp only [Flag.bit, BitVec.getLsbD_shiftLeft, BitVec.getLsbD_one, Bool.and_eq_true, Bool.not_eq_true',
    decide_eq_true_eq, decide_eq_false_iff_not]
  omega

@[simp] theorem FlagSet.names_or (s t : FlagSet) (f : Flag) :
    FlagSet.names (s ||| t) f = (FlagSet.names s f || FlagSet.names t f) := by
  simp [FlagSet.names]

@[simp] theorem FlagSet.names_bitIf (f g : Flag) (b : Bool) :
    FlagSet.names (g.bitIf b) f = (b && decide (f.index = g.index)) := by
  cases b with
  | false => simp [FlagSet.names, Flag.bitIf]
  | true => simp [FlagSet.names, Flag.bitIf, Flag.getLsbD_bit]

/-! ### The netting engine's flags in the live conditions (R62, R74, R76) -/

theorem State.liveConditions_lowVoltage (s : State) (x : Phase) :
    FlagSet.names s.liveConditions (.lowVoltage x) = s.engine.lowVoltage.get x := by
  cases x <;> simp [State.liveConditions, State.phaseConditions, Flag.index, phaseNumber]

theorem State.liveConditions_exportWarn (s : State) :
    FlagSet.names s.liveConditions .exportWarn = s.engine.exportState.warns := by
  simp [State.liveConditions, State.phaseConditions, Flag.index, phaseNumber]

theorem State.liveConditions_exportTrip (s : State) :
    FlagSet.names s.liveConditions .exportTrip = s.engine.exportState.trips := by
  simp [State.liveConditions, State.phaseConditions, Flag.index, phaseNumber]

theorem State.liveConditions_unmetered (s : State) :
    FlagSet.names s.liveConditions .unmetered = s.engine.unmetered := by
  simp [State.liveConditions, State.phaseConditions, Flag.index, phaseNumber]

/-! ### Reports (R141) -/

/-- A condition set to the value it has stays as it is. -/
theorem Monitor.setCondition_of_names (m : Monitor) (f : Flag) (v : Bool) (h : FlagSet.names m.conditions f = v) :
    m.setCondition f v = m := by
  have hbits : (if v then m.conditions ||| f.bit else m.conditions &&& ~~~f.bit) = m.conditions := by
    apply BitVec.eq_of_getLsbD_eq
    intro i hi
    by_cases hif : i = f.index
    · have hi' : m.conditions.getLsbD i = v := hif ▸ h
      cases v <;> simp [-BitVec.getLsbD_eq_getElem, hi']
    · cases v <;> simp [-BitVec.getLsbD_eq_getElem, f.getLsbD_bit, hif, hi]
  simp only [Monitor.setCondition, hbits]

/-- A report of the value that the condition has is without effect. -/
theorem State.report_of_names (s : State) (f : Flag) (v : Bool) (h : FlagSet.names s.monitor.conditions f = v) :
    s.report f v = s := by
  simp [State.report, Monitor.setCondition_of_names _ _ _ h, h, State.raiseIf]

/-- A report of false clears the condition and raises nothing. -/
theorem State.report_false (s : State) (f : Flag) :
    s.report f false = { s with monitor := s.monitor.setCondition f false } := by
  simp [State.report, State.raiseIf]

/-- Where only the engine's state has changed, FAILSAFE is the one condition of the engine that can be new. -/
theorem State.reportEngine_of_engineState (s : State) (e : EngineState)
    (h : s.monitor.conditions = s.liveConditions) :
    ({ s with engine := { s.engine with state := e } } : State).reportEngine =
      ({ s with engine := { s.engine with state := e } } : State).report .failsafe e.isFailsafe := by
  have hlow := s.liveConditions_lowVoltage
  have hwarn := s.liveConditions_exportWarn
  have htrip := s.liveConditions_exportTrip
  have hunmetered := s.liveConditions_unmetered
  rw [← h] at hlow hwarn htrip hunmetered
  simp [State.reportEngine, State.report_of_names, hlow .a, hlow .b, hlow .c, hwarn, htrip, hunmetered]

/-! ### A command that has left its queue (R157) -/

/-- The state with the command queue replaced and nothing else. -/
def State.withCommands (s : State) (rest : List (List Byte)) : State :=
  { s with link := { s.link with commands := rest } }

/-- With its response queued, a command that has left its queue is answered. -/
theorem State.respond_withCommands (s : State) (rest : List (List Byte)) (code : Byte) (status : Status)
    (data : List Byte) : (s.withCommands rest).respond code status data = s.answered rest code status data := rfl

/-- An evaluation of the band in force does not see the command queue (R110). -/
theorem State.evaluate_withCommands (s : State) (rest : List (List Byte)) :
    (s.withCommands rest).evaluate = s.evaluate.withCommands rest := by
  have hband : (s.withCommands rest).bandNow = s.bandNow := rfl
  have hcalendar : (s.withCommands rest).calendar = s.calendar := rfl
  by_cases hsame : s.bandNow.1 = s.calendar.band
  · simp only [State.evaluate, hband, hcalendar, hsame, if_true]
    rfl
  · simp only [State.evaluate, hband, hcalendar, hsame, if_false]
    rfl

/-! ### RESUME (R57, R152) -/

/-- RESUME in FAILSAFE, with the engine's reports reduced to the one that changes. -/
theorem State.resumeMetering_of_live (s : State) (h : s.monitor.conditions = s.liveConditions) :
    s.resumeMetering =
      (({ s with engine := { s.engine with state := .metering } } : State).report .failsafe
        false).startWatchdog.evaluate := by
  simp only [State.resumeMetering, s.reportEngine_of_engineState .metering h, EngineState.isFailsafe]

/-- RESUME does not see the command queue. -/
theorem State.resumeMetering_withCommands (s : State) (rest : List (List Byte))
    (h : s.monitor.conditions = s.liveConditions) :
    (s.withCommands rest).resumeMetering = s.resumeMetering.withCommands rest := by
  rw [s.resumeMetering_of_live h, (s.withCommands rest).resumeMetering_of_live h, ← State.evaluate_withCommands]
  simp only [State.report_false]
  rfl

/-- An executed RESUME acts on the state that its command has left. -/
theorem exec_resume (s : State) {rest : List (List Byte)} (h : s.Executes 0x12#8 [] rest) :
    exec .resume s = .next ((resume [] (s.withCommands rest)).state.respond 0x12#8
      (resume [] (s.withCommands rest)).status (resume [] (s.withCommands rest)).data) :=
  congrArg Host.Outcome.next ((s.execute_of h _ _).trans (s.answerHead_of_ok rest 0x12#8 [] _ _ rfl))

/-- Settles O35. The fault monitor agrees with the owners, so of the engine's reports only that of FAILSAFE changes
anything; neither RESUME nor its refusal sees that the command has left its queue. -/
theorem resumeLeavesFailsafe : Obligations.ResumeLeavesFailsafe := by
  rintro s u rest hexec ⟨hlive, -, -⟩ hu
  have hstate : (s.withCommands rest).engine.state = s.engine.state := rfl
  rw [exec_resume s hexec]
  refine ⟨fun hfailsafe => ?_, fun hother => ?_⟩
  · have hresumed : s.resumeMetering = u.startWatchdog.evaluate := by rw [s.resumeMetering_of_live hlive, hu]
    have hseconds : u.watchdogSeconds = s.watchdogSeconds := by simp [hu, State.watchdogSeconds]
    have hresume : resume [] (s.withCommands rest) = (u.startWatchdog.evaluate.withCommands rest).okay [] := by
      simp only [resume, hstate, hfailsafe, if_true, s.resumeMetering_withCommands rest hlive, hresumed]
    rw [hresume, ← hseconds]
    exact congrArg Host.Outcome.next (State.respond_withCommands _ rest _ _ _)
  · have hrefused : resume [] (s.withCommands rest) = (s.withCommands rest).refuse .refusedState := by
      simp only [resume, hstate, hother, if_false]
    rw [hrefused]
    exact congrArg Host.Outcome.next (s.respond_withCommands rest _ _ _)

end Sys2Proof.Machine

/-! # PRELOAD and SNAPSHOT: the commands that write the energy bank -/

namespace Sys2Proof.Machine

/-! ### The answer of a command that does nothing but write the bank (R157) -/

/-- A command of the fixed length acts on the state that it has left, and is answered. -/
theorem State.execute_of_length (s : State) {code : Byte} {params : List Byte} {rest : List (List Byte)} {n : Nat}
    (h : s.Executes code params rest) (hlength : params.length = n) (own : List Byte → State → Reply) :
    s.execute code (lengthIs n) own = (own params (s.withCommands rest)).state.respond code
      (own params (s.withCommands rest)).status (own params (s.withCommands rest)).data :=
  (s.execute_of h _ _).trans (s.answerHead_of_ok rest code params _ own (by simp [lengthIs, hlength]))

/-- A refusal by the owner changes nothing but the queues of the link. -/
theorem State.execute_of_refused (s : State) {code : Byte} {params : List Byte} {rest : List (List Byte)} {n : Nat}
    (h : s.Executes code params rest) (hlength : params.length = n) {own : List Byte → State → Reply} {status : Status}
    (hown : own params (s.withCommands rest) = (s.withCommands rest).refuse status) :
    s.execute code (lengthIs n) own = s.answered rest code status [] := by
  rw [s.execute_of_length h hlength, hown]
  exact s.respond_withCommands rest code status []

/-- A command that its owner answers OK with the bank replaced changes nothing but the bank and the queues of the link. -/
theorem State.execute_of_bank (s : State) {code : Byte} {params : List Byte} {rest : List (List Byte)} {n : Nat}
    (h : s.Executes code params rest) (hlength : params.length = n) {own : List Byte → State → Reply} {bank : Bank}
    (hown : own params (s.withCommands rest) = ({ s.withCommands rest with bank := bank } : State).okay []) :
    s.execute code (lengthIs n) own = ({ s with bank := bank } : State).answered rest code .ok [] := by
  rw [s.execute_of_length h hlength, hown]
  exact State.respond_withCommands { s with bank := bank } rest code .ok []

/-! ### SNAPSHOT (R94) -/

theorem exec_snapshot (s : State) {rest : List (List Byte)} (h : s.Executes 0x21#8 [] rest) :
    exec .snapshot s = .next
      (({ s with bank := { s.bank with snapshot := s.snapshotNow } } : State).answered rest 0x21#8 .ok []) :=
  congrArg Host.Outcome.next (s.execute_of_bank h rfl (own := snapshot) rfl)

theorem State.windowBand_of_open (s : State) {w : Window} (h : s.engine.window = some w) : s.windowBand = w.band := by
  simp [State.windowBand, h]

theorem State.windowBand_of_none (s : State) (h : s.engine.window = none) : s.windowBand = s.calendar.band := by
  simp [State.windowBand, h]

theorem State.snapshotNow_q_of_table (s : State) {m : Meter} (h : s.tables.meterActive = some m) :
    s.snapshotNow.q = m.q := by
  simp [State.snapshotNow, h]

theorem State.snapshotNow_q_of_none (s : State) (h : s.tables.meterActive = none) : s.snapshotNow.q = 0 := by
  simp [State.snapshotNow, h]

/-- Settles O39: the record is `State.snapshotNow`, every field of it read from the one state that executes the command. -/
theorem snapshotCopiesOneMoment : Obligations.SnapshotCopiesOneMoment := by
  intro s rest hexec
  exact ⟨s.snapshotNow, exec_snapshot s hexec, rfl, rfl, s.snapshotNow_q_of_none, fun _ => s.snapshotNow_q_of_table,
    rfl, rfl, rfl, rfl, rfl, fun _ => s.windowBand_of_open, s.windowBand_of_none⟩

/-! ### The register that a PRELOAD names (R92, R169) -/

@[simp] theorem phaseOf_phaseNumber (x : Phase) : phaseOf (phaseNumber x) = some x := by cases x <;> rfl

theorem phaseOf_eq_none_iff (n : Nat) : phaseOf n = none ↔ 2 < n := by
  match n with
  | 0 | 1 | 2 | n + 3 => simp [phaseOf]

theorem preloadTarget_bandImport {cls index : Nat} {b : Band} (hcls : cls = 0) (hindex : index = b.val) :
    preloadTarget cls index = some (.band true b) := by
  simp [preloadTarget, hcls, hindex]

theorem preloadTarget_bandExport {cls index : Nat} {b : Band} (hcls : cls = 1) (hindex : index = b.val) :
    preloadTarget cls index = some (.band false b) := by
  simp [preloadTarget, hcls, hindex]

theorem preloadTarget_grossImport {cls index : Nat} {x : Phase} (hcls : cls = 2) (hindex : index = phaseNumber x) :
    preloadTarget cls index = some (.gross true x) := by
  simp [preloadTarget, hcls, hindex]

theorem preloadTarget_grossExport {cls index : Nat} {x : Phase} (hcls : cls = 3) (hindex : index = phaseNumber x) :
    preloadTarget cls index = some (.gross false x) := by
  simp [preloadTarget, hcls, hindex]

/-- No register is named by a class above 3, a band above 7 or a phase above 2. -/
theorem preloadTarget_eq_none_iff (cls index : Nat) :
    preloadTarget cls index = none ↔ 3 < cls ∨ (cls < 2 ∧ 7 < index) ∨ (2 ≤ cls ∧ 2 < index) := by
  match cls with
  | 0 | 1 =>
    have hbound : 8 ≤ index ↔ 7 < index := Nat.succ_le_iff
    simp [preloadTarget, hbound]
  | 2 | 3 => simp [preloadTarget, phaseOf_eq_none_iff]
  | cls + 4 => simp [preloadTarget]

/-! ### PRELOAD (R92): its checks in their order -/

theorem exec_preload_outside_config (s : State) {p : List Byte} {rest : List (List Byte)}
    (h : s.Executes 0x23#8 p rest) (hlength : p.length = 10) (hstate : s.engine.state ≠ .config) :
    exec .preload s = .next (s.answered rest 0x23#8 .refusedState []) := by
  have hrefused : preload p (s.withCommands rest) = (s.withCommands rest).refuse .refusedState := if_pos hstate
  exact congrArg Host.Outcome.next (s.execute_of_refused h hlength hrefused)

theorem exec_preload_out_of_range (s : State) {p : List Byte} {rest : List (List Byte)}
    (h : s.Executes 0x23#8 p rest) (hlength : p.length = 10) (hstate : s.engine.state = .config)
    (hrange : preloadTarget (p.getD 0 0).toNat (p.getD 1 0).toNat = none ∨ Config.registerModulus ≤ beNat (p.drop 2)) :
    exec .preload s = .next (s.answered rest 0x23#8 .refusedRange []) := by
  have hconfig : (s.withCommands rest).engine.state = .config := hstate
  have hrefused : preload p (s.withCommands rest) = (s.withCommands rest).refuse .refusedRange := by
    cases htarget : preloadTarget (p.getD 0 0).toNat (p.getD 1 0).toNat with
    | none => simp only [preload, hconfig, htarget, ne_eq, not_true_eq_false, if_false]
    | some t =>
      have hvalue : ¬ beNat (p.drop 2) < Config.registerModulus := by
        rw [htarget] at hrange
        simpa only [reduceCtorEq, false_or, not_lt] using hrange
      simp only [preload, hconfig, htarget, hvalue, ne_eq, not_true_eq_false, if_false]
  exact congrArg Host.Outcome.next (s.execute_of_refused h hlength hrefused)

theorem exec_preload_accepted (s : State) {p : List Byte} {rest : List (List Byte)} {t : PreloadTarget}
    (h : s.Executes 0x23#8 p rest) (hlength : p.length = 10) (hstate : s.engine.state = .config)
    (htarget : preloadTarget (p.getD 0 0).toNat (p.getD 1 0).toNat = some t)
    (hvalue : beNat (p.drop 2) < Config.registerModulus) :
    exec .preload s = .next
      (({ s with bank := { s.bank with accounts := s.bank.accounts.preload t (beNat (p.drop 2)) } } : State).answered rest
        0x23#8 .ok []) := by
  have hconfig : (s.withCommands rest).engine.state = .config := hstate
  have haccepted : preload p (s.withCommands rest) =
      ({ s.withCommands rest with
        bank := { s.bank with accounts := s.bank.accounts.preload t (beNat (p.drop 2)) } } : State).okay [] := by
    simp only [preload, hconfig, htarget, hvalue, ne_eq, not_true_eq_false, if_false, if_true]
    rfl
  exact congrArg Host.Outcome.next (s.execute_of_bank h hlength haccepted)

/-- Settles O38. The refusals follow the order of the checks; in each class an index in range names one register, and
`Accounts.preload` replaces that one and moves the update count. -/
theorem preloadReplacesOneRegister : Obligations.PreloadReplacesOneRegister := by
  rintro s rest p v acc hexec hlength rfl rfl cls index done
  refine ⟨exec_preload_outside_config s hexec hlength, fun hconfig hrange => ?_, fun hconfig hvalue => ?_⟩
  · refine exec_preload_out_of_range s hexec hlength hconfig ?_
    rw [preloadTarget_eq_none_iff, or_assoc, or_assoc]
    exact hrange
  · have accepted {t : PreloadTarget} (htarget : preloadTarget cls index = some t) :
        done (s.bank.accounts.preload t (beNat (p.drop 2))) :=
      exec_preload_accepted s hexec hlength hconfig htarget hvalue
    exact ⟨fun b hindex =>
        ⟨fun hcls => accepted (preloadTarget_bandImport hcls hindex),
          fun hcls => accepted (preloadTarget_bandExport hcls hindex)⟩,
      fun x hindex =>
        ⟨fun hcls => accepted (preloadTarget_grossImport hcls hindex),
          fun hcls => accepted (preloadTarget_grossExport hcls hindex)⟩⟩

end Sys2Proof.Machine

/-! # ADD and REMOVE SPECIAL DAY: the edits of the special-day list -/

namespace Sys2Proof.Machine

/-! ### The edited lists (R105, R106) -/

theorem isListed_iff (day : Nat) (l : List SpecialDay) : isListed day l = true ↔ ∃ e ∈ l, e.day = day := by
  simp [isListed]

theorem not_isListed_iff (day : Nat) (l : List SpecialDay) : ¬ isListed day l = true ↔ ∀ e ∈ l, e.day ≠ day := by
  simp [isListed_iff]

theorem mem_insertDay (d e : SpecialDay) (l : List SpecialDay) : e ∈ insertDay d l ↔ e = d ∨ e ∈ l := by
  induction l with
  | nil => simp [insertDay]
  | cons a l ih =>
    by_cases hplace : d.day < a.day
    · simp [insertDay, hplace]
    · simp only [insertDay, hplace, if_false, List.mem_cons, ih]
      exact or_left_comm

/-- A new day stands before the later days and after the earlier ones. -/
theorem pairwise_insertDay (d : SpecialDay) (l : List SpecialDay) (horder : l.Pairwise (fun a b => a.day < b.day))
    (hnew : ∀ e ∈ l, e.day ≠ d.day) : (insertDay d l).Pairwise (fun a b => a.day < b.day) := by
  induction l with
  | nil => simp [insertDay]
  | cons a l ih =>
    obtain ⟨hfirst, hrest⟩ := List.pairwise_cons.mp horder
    obtain ⟨hda, hdl⟩ := List.forall_mem_cons.mp hnew
    by_cases hplace : d.day < a.day
    · have hbefore : ∀ e ∈ a :: l, d.day < e.day :=
        List.forall_mem_cons.mpr ⟨hplace, fun e he => hplace.trans (hfirst e he)⟩
      simpa only [insertDay, hplace, if_true] using List.pairwise_cons.mpr ⟨hbefore, horder⟩
    · have hafter : ∀ e ∈ insertDay d l, a.day < e.day := by
        intro e he
        rcases (mem_insertDay d e l).mp he with rfl | he
        · omega
        · exact hfirst e he
      simpa only [insertDay, hplace, if_false] using List.pairwise_cons.mpr ⟨hafter, ih hrest hdl⟩

/-- The replacement of a listed day: the new entry stands for all those of its day. -/
theorem mem_replaceDay (d e : SpecialDay) (l : List SpecialDay) (hlisted : ∃ a ∈ l, a.day = d.day) :
    e ∈ replaceDay d l ↔ e = d ∨ (e ∈ l ∧ e.day ≠ d.day) := by
  simp only [replaceDay, List.mem_map]
  constructor
  · rintro ⟨a, ha, rfl⟩
    by_cases hday : a.day = d.day
    · simp [hday]
    · simp [hday, ha]
  · rintro (rfl | ⟨he, hday⟩)
    · obtain ⟨a, ha, hday⟩ := hlisted
      exact ⟨a, ha, if_pos hday⟩
    · exact ⟨e, he, if_neg hday⟩

/-- Position and count stay (R106): a replaced profile leaves the days of the list as they are. -/
theorem replaceDay_days (d : SpecialDay) (l : List SpecialDay) :
    (replaceDay d l).map SpecialDay.day = l.map SpecialDay.day := by
  simp only [replaceDay, List.map_map]
  refine List.map_congr_left fun e _ => ?_
  by_cases hday : e.day = d.day <;> simp [hday]

theorem pairwise_replaceDay (d : SpecialDay) (l : List SpecialDay) (horder : l.Pairwise (fun a b => a.day < b.day)) :
    (replaceDay d l).Pairwise (fun a b => a.day < b.day) := by
  rw [← List.pairwise_map (f := SpecialDay.day) (R := (· < ·))] at horder ⊢
  rwa [replaceDay_days]

/-! ### A command that edits the list (R106, R107) -/

/-- An edit of the special-day list does not see the command queue. -/
theorem State.editDays_withCommands (s : State) (rest : List (List Byte)) (l : List SpecialDay) :
    (s.withCommands rest).editDays l = (s.editDays l).withCommands rest :=
  State.evaluate_withCommands { s with calendar := { s.calendar with specialDays := l } } rest

/-- A command that its owner answers OK with the list edited changes nothing else but the queues of the link. -/
theorem State.execute_of_edit (s : State) {code : Byte} {params : List Byte} {rest : List (List Byte)} {n : Nat}
    (h : s.Executes code params rest) (hlength : params.length = n) {own : List Byte → State → Reply}
    {l : List SpecialDay} (hown : own params (s.withCommands rest) = ((s.withCommands rest).editDays l).okay []) :
    s.execute code (lengthIs n) own = (s.editDays l).answered rest code .ok [] := by
  rw [s.execute_of_length h hlength, hown, s.editDays_withCommands]
  exact (s.editDays l).respond_withCommands rest code .ok []

/-! ### ADD SPECIAL DAY (R106): its cases in their order -/

section AddSpecialDay

variable (s : State) {p : List Byte} {rest : List (List Byte)}

theorem exec_addSpecialDay_out_of_range (h : s.Executes 0x32#8 p rest) (hlength : p.length = 3)
    (hrange : 7 < beNat (p.drop 2) ∨ (s.calendar.clockSet = true ∧ beNat (p.take 2) < s.calendar.day)) :
    exec .addSpecialDay s = .next (s.answered rest 0x32#8 .refusedRange []) := by
  have hrefused : addSpecialDay p (s.withCommands rest) = (s.withCommands rest).refuse .refusedRange := by
    by_cases hprofile : 7 < beNat (p.drop 2)
    · exact if_pos hprofile
    · exact (if_neg hprofile).trans (if_pos (hrange.resolve_left hprofile))
  exact congrArg Host.Outcome.next (s.execute_of_refused h hlength hrefused)

/-- With the profile and the day in range, the list decides. -/
theorem addSpecialDay_in_range (hprofile : beNat (p.drop 2) ≤ 7)
    (hday : s.calendar.clockSet = true → s.calendar.day ≤ beNat (p.take 2)) :
    addSpecialDay p s =
      if isListed (beNat (p.take 2)) s.calendar.specialDays then
        (s.editDays (replaceDay ⟨beNat (p.take 2), beNat (p.drop 2)⟩ s.calendar.specialDays)).okay []
      else if Config.specialDayDepth ≤ s.calendar.specialDays.length then s.refuse .listFull
      else (s.editDays (insertDay ⟨beNat (p.take 2), beNat (p.drop 2)⟩ s.calendar.specialDays)).okay [] :=
  (if_neg hprofile.not_gt).trans (if_neg fun hpast => (hday hpast.1).not_gt hpast.2)

theorem exec_addSpecialDay_full (h : s.Executes 0x32#8 p rest) (hlength : p.length = 3)
    (hprofile : beNat (p.drop 2) ≤ 7) (hday : s.calendar.clockSet = true → s.calendar.day ≤ beNat (p.take 2))
    (hnew : ∀ e ∈ s.calendar.specialDays, e.day ≠ beNat (p.take 2)) (hfull : 16 ≤ s.calendar.specialDays.length) :
    exec .addSpecialDay s = .next (s.answered rest 0x32#8 .listFull []) := by
  have hunlisted := (not_isListed_iff _ _).mpr hnew
  have hrefused : addSpecialDay p (s.withCommands rest) = (s.withCommands rest).refuse .listFull :=
    (addSpecialDay_in_range (s.withCommands rest) hprofile hday).trans ((if_neg hunlisted).trans (if_pos hfull))
  exact congrArg Host.Outcome.next (s.execute_of_refused h hlength hrefused)

theorem exec_addSpecialDay_listed (h : s.Executes 0x32#8 p rest) (hlength : p.length = 3)
    (hprofile : beNat (p.drop 2) ≤ 7) (hday : s.calendar.clockSet = true → s.calendar.day ≤ beNat (p.take 2))
    (hlisted : ∃ e ∈ s.calendar.specialDays, e.day = beNat (p.take 2)) :
    exec .addSpecialDay s = .next
      ((s.editDays (replaceDay ⟨beNat (p.take 2), beNat (p.drop 2)⟩ s.calendar.specialDays)).answered rest 0x32#8
        .ok []) := by
  refine congrArg Host.Outcome.next (s.execute_of_edit h hlength (own := addSpecialDay) ?_)
  exact (addSpecialDay_in_range (s.withCommands rest) hprofile hday).trans (if_pos ((isListed_iff _ _).mpr hlisted))

theorem exec_addSpecialDay_new (h : s.Executes 0x32#8 p rest) (hlength : p.length = 3)
    (hprofile : beNat (p.drop 2) ≤ 7) (hday : s.calendar.clockSet = true → s.calendar.day ≤ beNat (p.take 2))
    (hnew : ∀ e ∈ s.calendar.specialDays, e.day ≠ beNat (p.take 2)) (hroom : s.calendar.specialDays.length < 16) :
    exec .addSpecialDay s = .next
      ((s.editDays (insertDay ⟨beNat (p.take 2), beNat (p.drop 2)⟩ s.calendar.specialDays)).answered rest 0x32#8
        .ok []) := by
  have hunlisted := (not_isListed_iff _ _).mpr hnew
  refine congrArg Host.Outcome.next (s.execute_of_edit h hlength (own := addSpecialDay) ?_)
  exact (addSpecialDay_in_range (s.withCommands rest) hprofile hday).trans
    ((if_neg hunlisted).trans (if_neg hroom.not_ge))

/-- An accepted ADD leaves an ordered list with the new entry as the one of its day. -/
theorem exec_addSpecialDay_accepted (h : s.Executes 0x32#8 p rest) (hlength : p.length = 3)
    (hprofile : beNat (p.drop 2) ≤ 7) (hday : s.calendar.clockSet = true → s.calendar.day ≤ beNat (p.take 2))
    (horder : s.calendar.specialDays.Pairwise (fun d e => d.day < e.day))
    (haccepted : (∃ e ∈ s.calendar.specialDays, e.day = beNat (p.take 2)) ∨ s.calendar.specialDays.length < 16) :
    ∃ l : List SpecialDay,
      (∀ e, e ∈ l ↔ e = ⟨beNat (p.take 2), beNat (p.drop 2)⟩
          ∨ (e ∈ s.calendar.specialDays ∧ e.day ≠ beNat (p.take 2)))
        ∧ l.Pairwise (fun d e => d.day < e.day)
        ∧ exec .addSpecialDay s = .next ((s.editDays l).answered rest 0x32#8 .ok []) := by
  by_cases hlisted : ∃ e ∈ s.calendar.specialDays, e.day = beNat (p.take 2)
  · exact ⟨_, fun e => mem_replaceDay _ e _ hlisted, pairwise_replaceDay _ _ horder,
      exec_addSpecialDay_listed s h hlength hprofile hday hlisted⟩
  · have hnew : ∀ e ∈ s.calendar.specialDays, e.day ≠ beNat (p.take 2) := fun e he hsame => hlisted ⟨e, he, hsame⟩
    refine ⟨_, fun e => ?_, pairwise_insertDay _ _ horder hnew,
      exec_addSpecialDay_new s h hlength hprofile hday hnew (haccepted.resolve_left hlisted)⟩
    rw [mem_insertDay, and_iff_left_of_imp (hnew e)]

end AddSpecialDay

/-! ### REMOVE SPECIAL DAY (R107) -/

theorem exec_removeSpecialDay_unlisted (s : State) {p : List Byte} {rest : List (List Byte)}
    (h : s.Executes 0x33#8 p rest) (hlength : p.length = 2) (hnone : ∀ e ∈ s.calendar.specialDays, e.day ≠ beNat p) :
    exec .removeSpecialDay s = .next (s.answered rest 0x33#8 .notFound []) := by
  have hunlisted := (not_isListed_iff _ _).mpr hnone
  have hrefused : removeSpecialDay p (s.withCommands rest) = (s.withCommands rest).refuse .notFound := if_neg hunlisted
  exact congrArg Host.Outcome.next (s.execute_of_refused h hlength hrefused)

theorem exec_removeSpecialDay_listed (s : State) {p : List Byte} {rest : List (List Byte)}
    (h : s.Executes 0x33#8 p rest) (hlength : p.length = 2) (hlisted : ∃ e ∈ s.calendar.specialDays, e.day = beNat p) :
    exec .removeSpecialDay s = .next
      ((s.editDays (s.calendar.specialDays.filter (fun e => decide (e.day ≠ beNat p)))).answered rest 0x33#8 .ok []) := by
  have hfilter : s.calendar.specialDays.filter (fun e => decide (e.day ≠ beNat p)) =
      s.calendar.specialDays.filter (fun e => e.day != beNat p) :=
    List.filter_congr fun e _ => Bool.eq_iff_iff.mpr (by simp)
  rw [hfilter]
  refine congrArg Host.Outcome.next (s.execute_of_edit h hlength (own := removeSpecialDay) ?_)
  exact if_pos ((isListed_iff _ _).mpr hlisted)

/-- Settles O43. A listed day is replaced in place and a new one inserted in day order, both to the list of the same
members; an edit evaluates the band in force, which does not see that the command has left its queue. -/
theorem specialDayListIsEdited : Obligations.SpecialDayListIsEdited := by
  rintro s rest p day profile l rfl horder
  refine ⟨?_, ?_⟩
  · rintro hexec hlength rfl rfl
    exact ⟨exec_addSpecialDay_out_of_range s hexec hlength, fun hprofile hday =>
      ⟨exec_addSpecialDay_full s hexec hlength hprofile hday,
        exec_addSpecialDay_accepted s hexec hlength hprofile hday horder⟩⟩
  · rintro hexec hlength rfl
    exact ⟨exec_removeSpecialDay_unlisted s hexec hlength, exec_removeSpecialDay_listed s hexec hlength⟩

end Sys2Proof.Machine

/-! # RESET DEMAND: the copy of the records and the restart of a ONE_SHOT interval -/

namespace Sys2Proof.Machine

/-! ### The copy and the clearing (R125) -/

theorem satInc_eq_min (top n : Nat) : satInc top n = min (n + 1) top := by
  unfold satInc
  split <;> omega

/-- A demand state that differs in the records, the previous records and the reset count alone, each as R125 leaves it,
is the one that RESET DEMAND leaves. -/
theorem Demand.eq_resetRecords {d cleared : Demand} (hrecords : cleared.records = recordsZero)
    (hrest : { cleared with records := d.records, previous := d.previous, resetCount := d.resetCount } = d)
    (hprevious : cleared.previous = d.records) (hcount : cleared.resetCount = min (d.resetCount + 1) top16) :
    cleared = d.resetRecords := by
  have hreset : d.resetRecords =
      { cleared with previous := d.records, records := recordsZero, resetCount := satInc top16 d.resetCount } := by
    conv_lhs => rw [← hrest]
    rfl
  rw [hreset, satInc_eq_min, ← hcount, ← hprevious, ← hrecords]

/-! ### The restart by the interval state (R126) -/

section Restart

variable (s : State)

/-- A ONE_SHOT interval that begins with a reload counts from the whole of DI (R116, R126). -/
theorem State.beginInterval_reload_of_oneShot (hmode : s.demandMode = .oneShot) (partialMark : Bool) :
    s.beginInterval partialMark true =
      { s with demand :=
        { s.demand with
          state := .running, partialMark := partialMark, sums := ⟨0, 0⟩, stampDay := 0, stampMinute := 0
          base := s.demandMinutes * 240000, current := s.demandMinutes * 240000, terminal := false } } := by
  have hcounter : s.counterMode = true := by simp [State.counterMode, hmode]
  simp [State.beginInterval, hcounter, Config.strobesPerMinute]

theorem State.restartOneShot_of_undisturbed (h : s.demandMode ≠ .oneShot ∨ s.demand.state = .idle) :
    s.restartOneShot = s := by
  by_cases hmode : s.demandMode = .oneShot
  · simp [State.restartOneShot, h.resolve_left (not_not_intro hmode)]
  · exact if_neg hmode

theorem State.restartOneShot_of_ending (hmode : s.demandMode = .oneShot) (hstate : s.demand.state = .ending) :
    s.restartOneShot = { s with demand := { s.demand with restartPending := true } } := by
  simp [State.restartOneShot, hmode, hstate]

theorem State.restartOneShot_of_running_or_done (hmode : s.demandMode = .oneShot)
    (hstate : s.demand.state = .running ∨ s.demand.state = .done) :
    s.restartOneShot =
      { s with demand :=
        { s.demand with
          state := .running, partialMark := false, sums := ⟨0, 0⟩, stampDay := 0, stampMinute := 0
          base := s.demandMinutes * 240000, current := s.demandMinutes * 240000, terminal := false } } := by
  have hbegins : s.restartOneShot = s.beginInterval false true := by
    rcases hstate with hrunning | hdone
    · simp [State.restartOneShot, hmode, hrunning]
    · simp [State.restartOneShot, hmode, hdone]
  exact hbegins.trans (s.beginInterval_reload_of_oneShot hmode false)

/-- The restart does not see the command queue. -/
theorem State.restartOneShot_withCommands (rest : List (List Byte)) :
    (s.withCommands rest).restartOneShot = s.restartOneShot.withCommands rest := by
  by_cases hmode : s.demandMode = .oneShot
  · have hmode' : (s.withCommands rest).demandMode = .oneShot := hmode
    have hdemand : (s.withCommands rest).demand = s.demand := rfl
    cases hstate : s.demand.state <;> simp only [State.restartOneShot, hmode, hmode', hdemand, hstate, if_true] <;> rfl
  · rw [s.restartOneShot_of_undisturbed (.inl hmode)]
    exact (s.withCommands rest).restartOneShot_of_undisturbed (.inl hmode)

/-! ### The command -/

/-- An executed RESET DEMAND replaces the records, then restarts the interval, and is answered OK. -/
theorem exec_resetDemand {t : State} {rest : List (List Byte)} (h : s.Executes 0x39#8 [] rest)
    (hrestart : ({ s with demand := s.demand.resetRecords } : State).restartOneShot = t) :
    exec .resetDemand s = .next (t.answered rest 0x39#8 .ok []) := by
  have hown : resetDemand [] (s.withCommands rest) = (t.withCommands rest).okay [] := by
    rw [← hrestart, ← State.restartOneShot_withCommands]
    rfl
  refine congrArg Host.Outcome.next ((s.execute_of_length h rfl resetDemand).trans ?_)
  rw [hown]
  exact t.respond_withCommands rest _ _ _

end Restart

/-- Settles O47. The demand state described is the one that `Demand.resetRecords` leaves, of the same mode and interval
state; the three cases are those of the restart. -/
theorem resetDemandCopiesAndClears : Obligations.ResetDemandCopiesAndClears := by
  rintro s rest cleared hexec ⟨hrecords, hrest, hprevious, hcount⟩
  obtain rfl := Demand.eq_resetRecords hrecords hrest hprevious hcount
  refine ⟨fun hundisturbed => ?_, fun hmode hending => ?_, fun hmode hstate => ?_⟩
  · exact exec_resetDemand s hexec (State.restartOneShot_of_undisturbed _ hundisturbed)
  · exact exec_resetDemand s hexec (State.restartOneShot_of_ending _ hmode hending)
  · exact exec_resetDemand s hexec (State.restartOneShot_of_running_or_done _ hmode hstate)

end Sys2Proof.Machine

/-! # WRITE TABLE and CANCEL APPLY: the commands that act on the pending copies -/

namespace Sys2Proof.Machine

/-! ### Bytes and the numbers that they carry (R170) -/

@[simp] theorem beBytes_length (n x : Nat) : (beBytes n x).length = n := by
  induction n generalizing x with
  | zero => rfl
  | succ n ih => simp [beBytes, ih]

@[simp] theorem beNat_concat (l : List Byte) (b : Byte) : beNat (l ++ [b]) = beNat l * 256 + b.toNat := by
  simp [beNat]

theorem beNat_lt (l : List Byte) : beNat l < 256 ^ l.length := by
  induction l using List.reverseRecOn with
  | nil => decide
  | append_singleton l b ih =>
    have hb := b.isLt
    rw [beNat_concat, List.length_append, List.length_singleton, pow_succ]
    omega

/-- Bytes read as a number and written out again are the same bytes. -/
theorem beBytes_beNat {l : List Byte} {n : Nat} (h : l.length = n) : beBytes n (beNat l) = l := by
  subst h
  induction l using List.reverseRecOn with
  | nil => rfl
  | append_singleton l b ih =>
    have hb := b.isLt
    have hhigh : (beNat l * 256 + b.toNat) / 256 = beNat l := by omega
    have hlow : BitVec.ofNat 8 (beNat l * 256 + b.toNat) = b := by
      apply BitVec.eq_of_toNat_eq
      rw [BitVec.toNat_ofNat]
      omega
    rw [beNat_concat, List.length_append, List.length_singleton, beBytes, hhigh, hlow, ih]

theorem beInt_emod (l : List Byte) : beInt l % (256 ^ l.length : Nat) = beNat l := by
  have hlt : beNat l < 256 ^ l.length := beNat_lt l
  have hself : (beNat l : Int) % (256 ^ l.length : Nat) = beNat l :=
    Int.emod_eq_of_lt (Int.natCast_nonneg _) (Int.ofNat_lt.mpr hlt)
  by_cases hsign : 2 * beNat l < 256 ^ l.length
  · rw [show beInt l = beNat l from if_pos hsign, hself]
  · rw [show beInt l = beNat l - (256 ^ l.length : Nat) from if_neg hsign, Int.sub_emod_right, hself]

/-- Bytes read in two's complement and written out again are the same bytes. -/
theorem beSigned_beInt {l : List Byte} {n : Nat} (h : l.length = n) : beSigned n (beInt l) = l := by
  subst h
  rw [beSigned, beInt_emod, Int.toNat_natCast, beBytes_beNat rfl]

/-! ### Entries decoded and encoded again (R130) -/

theorem CalEntry.bytes_length (e : CalEntry) : e.bytes.length = 10 := by
  simp [CalEntry.bytes, beSigned]

theorem TriggerEntry.bytes_length (e : TriggerEntry) : e.bytes.length = 5 := by
  simp [TriggerEntry.bytes]

/-- The ten bytes of a CAL entry. -/
theorem bytes_calEntryOf {l : List Byte} (h : l.length = 10) : (calEntryOf l).bytes = l := by
  match l, h with
  | [v0, v1, g0, g1, i0, i1, j0, j1, d, p], _ =>
    have hunsigned (a b : Byte) : beBytes 2 (beNat [a, b]) = [a, b] := beBytes_beNat rfl
    have hsigned (a b : Byte) : beSigned 2 (beInt [a, b]) = [a, b] := beSigned_beInt rfl
    have hbyte (a : Byte) : beBytes 1 (beNat [a]) = [a] := beBytes_beNat rfl
    simp [calEntryOf, CalEntry.bytes, hunsigned, hsigned, hbyte]

/-- The three bytes of a switch point. -/
theorem bytes_switchPoint {l : List Byte} (h : l.length = 3) :
    beBytes 2 (beNat (l.take 2)) ++ beBytes 1 (beNat (l.drop 2)) = l := by
  rw [beBytes_beNat (by simp [h]), beBytes_beNat (by simp [h]), List.take_append_drop]

theorem markByte_of_toNat_le_one {b : Byte} (h : b.toNat ≤ 1) : markByte (b == 1) = b := by
  have hcases : b = 0 ∨ b = 1 := by
    simp only [← BitVec.toNat_inj]
    exact Nat.le_one_iff_eq_zero_or_eq_one.mp h
  rcases hcases with rfl | rfl <;> rfl

/-- The five bytes of a TRIGGER entry whose enabled mark is 0 or 1 (R133). -/
theorem bytes_triggerEntryOf {l : List Byte} (h : l.length = 5) (hmark : (l.getD 0 0).toNat ≤ 1) :
    (triggerEntryOf l).bytes = l := by
  match l, h, hmark with
  | [e, v0, v1, m0, m1], _, hmark =>
    have hword (a b : Byte) : beBytes 2 (beNat [a, b] % 65536) = [a, b] := by
      have hlt : beNat [a, b] < 65536 := by simpa using beNat_lt [a, b]
      rw [Nat.mod_eq_of_lt hlt]
      exact beBytes_beNat rfl
    have henabled : markByte (e == 1#8) = e := markByte_of_toNat_le_one hmark
    simp [triggerEntryOf, TriggerEntry.bytes, hword, henabled]

theorem beBytes_toNat (b : Byte) : beBytes 1 b.toNat = [b] := by
  simp [beBytes]

/-! ### Bytes cut into pieces -/

/-- The pieces of `k * n` bytes, one by one. -/
theorem pieces_eq_map_range {n : Nat} (hn : 0 < n) (k fuel : Nat) (l : List Byte) (hlength : l.length = n * k)
    (hfuel : k ≤ fuel) : pieces n fuel l = (List.range k).map (fun j => (l.drop (n * j)).take n) := by
  induction k generalizing fuel l with
  | zero =>
    obtain rfl := List.eq_nil_of_length_eq_zero hlength
    cases fuel <;> rfl
  | succ k ih =>
    obtain ⟨fuel, rfl⟩ := Nat.exists_eq_add_of_le' (Nat.one_le_of_lt hfuel)
    have hsplit : n * (k + 1) = n * k + n := Nat.mul_succ n k
    have hnonempty : l.isEmpty = false := by
      rw [List.isEmpty_eq_false_iff, ← List.length_pos_iff]
      omega
    have hrest : (l.drop n).length = n * k := by
      rw [List.length_drop]
      omega
    rw [pieces, hnonempty, ih fuel (l.drop n) hrest (Nat.le_of_succ_le_succ hfuel), List.range_succ_eq_map]
    simp [Nat.mul_succ, Nat.add_comm]

theorem pieces_flatten {n : Nat} (hn : 0 < n) (fuel : Nat) (l : List Byte) (hfuel : l.length ≤ fuel) :
    (pieces n fuel l).flatten = l := by
  induction fuel generalizing l with
  | zero => simp_all [pieces]
  | succ fuel ih =>
    by_cases hempty : l.isEmpty
    · simp_all [pieces]
    · have hrest : (l.drop n).length ≤ fuel := by
        rw [List.length_drop]
        omega
      simp [pieces, hempty, ih _ hrest]

/-- What holds of each whole piece, by its position, holds of all. -/
theorem forall_mem_pieces {n k : Nat} (hn : 0 < n) {l : List Byte} (hlength : l.length = n * k)
    (P : List Byte → Prop) : (∀ b ∈ pieces n l.length l, P b) ↔ ∀ j < k, P ((l.drop (n * j)).take n) := by
  have hfuel : k ≤ l.length := hlength ▸ Nat.le_mul_of_pos_left k hn
  simp [pieces_eq_map_range hn k _ l hlength hfuel]

theorem pieces_length {n k : Nat} (hn : 0 < n) {l : List Byte} (hlength : l.length = n * k) :
    (pieces n l.length l).length = k := by
  have hfuel : k ≤ l.length := hlength ▸ Nat.le_mul_of_pos_left k hn
  simp [pieces_eq_map_range hn k _ l hlength hfuel]

theorem length_of_mem_pieces {n k : Nat} (hn : 0 < n) {l : List Byte} (hlength : l.length = n * k) :
    ∀ b ∈ pieces n l.length l, b.length = n := by
  rw [forall_mem_pieces hn hlength]
  intro j hj
  have hnext : n * j + n ≤ l.length := by
    rw [hlength, ← Nat.mul_succ]
    exact Nat.mul_le_mul_left n hj
  rw [List.length_take, List.length_drop]
  omega

/-- The enabled marks of the entries are the bytes at the multiples of 5 (R133). -/
theorem forall_marks_iff {k : Nat} {l : List Byte} (hlength : l.length = 5 * k) :
    (∀ b ∈ pieces 5 l.length l, (b.getD 0 0).toNat ≤ 1) ↔ ∀ j < k, (l.getD (5 * j) 0).toNat ≤ 1 := by
  have hfirst (j : Nat) : ((l.drop (5 * j)).take 5).getD 0 0 = l.getD (5 * j) 0 := by
    simp [List.getD_eq_getElem?_getD]
  simp only [forall_mem_pieces (by decide) hlength, hfirst]

theorem enabledMarksLegal_iff {k : Nat} {l : List Byte} (hlength : l.length = 5 * k) :
    enabledMarksLegal l = true ↔ ∀ j < k, (l.getD (5 * j) 0).toNat ≤ 1 := by
  have hlegal (b : Byte) : (b == 0 || b == 1) = true ↔ b.toNat ≤ 1 := by
    rw [Bool.or_eq_true, beq_iff_eq, beq_iff_eq, ← BitVec.toNat_inj, ← BitVec.toNat_inj]
    exact Nat.le_one_iff_eq_zero_or_eq_one.symm
  simp only [enabledMarksLegal, List.all_eq_true, hlegal, forall_marks_iff hlength]

/-! ### Entries written over a list -/

section Overwrite

variable {α β : Type}

@[simp] theorem overwrite_length (old : List α) (first : Nat) (entries : List α) :
    (overwrite old first entries).length = old.length := by
  simp only [overwrite, List.length_take, List.length_append, List.length_drop]
  omega

theorem overwrite_of_le {old entries : List α} {first : Nat} (h : first + entries.length ≤ old.length) :
    overwrite old first entries = old.take first ++ entries ++ old.drop (first + entries.length) := by
  apply List.take_of_length_le
  simp only [List.length_append, List.length_take, List.length_drop]
  omega

/-- An entry of the written list is the one written at its index, or the old one. -/
theorem getElem?_overwrite (old : List α) (first : Nat) (entries : List α) (i : Nat) :
    (overwrite old first entries)[i]? =
      if first ≤ i ∧ i < first + entries.length ∧ i < old.length then entries[i - first]? else old[i]? := by
  by_cases hi : i < old.length
  · rcases Nat.lt_or_ge i first with hbefore | hfirst
    · simp [overwrite, List.getElem?_append, hi, hbefore, hbefore.not_ge]
    · have htake : min first old.length = first := by omega
      by_cases hin : i < first + entries.length
      · have hoffset : i - first < entries.length := by omega
        simp [overwrite, List.getElem?_append, hi, hfirst, hfirst.not_gt, htake, hin, hoffset]
      · have hafter : ¬ i - first < entries.length := by omega
        have hindex : first + entries.length + (i - first - entries.length) = i := by omega
        simp [overwrite, List.getElem?_append, hi, hfirst.not_gt, htake, hin, hafter, hindex]
  · simp [hi, overwrite]

theorem map_overwrite (f : α → β) (old : List α) (first : Nat) (entries : List α) :
    (overwrite old first entries).map f = overwrite (old.map f) first (entries.map f) := by
  simp [overwrite]

/-- Where the entries run from the first part of a list into its second, each part takes its own. -/
theorem overwrite_append {a b x y : List α} {first : Nat} (hx : x.length ≤ a.length - first)
    (hy : y = [] ∨ a.length ≤ first + x.length) :
    overwrite (a ++ b) first (x ++ y) = overwrite a first x ++ overwrite b (first - a.length) y := by
  apply List.ext_getElem?
  intro i
  simp only [getElem?_overwrite, List.getElem?_append, overwrite_length]
  grind

end Overwrite

/-! ### The widths of the entries (R130, R169) -/

/-- The widths of a table's entries in index order. -/
def TableName.widths : TableName → List Nat
  | .cal => List.replicate 3 10
  | .meter => List.replicate 21 8
  | .calendar => List.replicate 96 3 ++ List.replicate 8 1
  | .trigger => List.replicate 4 5

theorem TableName.widths_length (name : TableName) : name.widths.length = entryLimit name := by
  cases name <;> rfl

theorem TableName.sum_take_widths (name : TableName) {i : Nat} (h : i ≤ entryLimit name) :
    (name.widths.take i).sum = name.offset i := by
  cases name with
  | cal | meter | trigger =>
    simp only [entryLimit] at h
    simp only [TableName.widths, TableName.offset, List.take_replicate, List.sum_replicate_nat, Nat.min_eq_left h,
      Nat.mul_comm]
  | calendar =>
    simp only [entryLimit] at h
    simp only [TableName.widths, TableName.offset, List.take_append, List.take_replicate, List.sum_append,
      List.sum_replicate_nat, List.length_replicate]
    split <;> omega

/-- The three lists of the tables have their entries (R130): 96 switch points, seven days, four triggers. -/
structure Tables.Sized (t : Tables) : Prop where
  points : t.calendarPending.points.length = 96
  week : t.calendarPending.week.length = 7
  trigger : t.trigger.length = 4

theorem State.TableLaw.sized {s : State} (h : s.TableLaw) : s.tables.Sized := by
  obtain ⟨-, -, -, -, -, -, htrigger, ⟨hpoints, hweek, -, -, -⟩, -⟩ := h
  exact ⟨hpoints, hweek, htrigger⟩

theorem Tables.pendingEntries_widths {t : Tables} (h : t.Sized) (name : TableName) :
    (t.pendingEntries name).map List.length = name.widths := by
  obtain ⟨hpoints, hweek, htrigger⟩ := h
  cases name with
  | cal => simp [pendingEntries, calEntries, PerPhase.toList, CalEntry.bytes_length, TableName.widths, List.replicate]
  | meter => simp [pendingEntries, meterEntries, Meter.fields, TableName.widths, List.replicate]
  | calendar =>
    simp [pendingEntries, calendarEntries, TableName.widths, Function.comp_def, hpoints, hweek, List.replicate]
  | trigger =>
    simp [pendingEntries, triggerEntries, TableName.widths, Function.comp_def, TriggerEntry.bytes_length, htrigger]

theorem Tables.pendingEntries_length {t : Tables} (h : t.Sized) (name : TableName) :
    (t.pendingEntries name).length = entryLimit name := by
  rw [← name.widths_length, ← pendingEntries_widths h, List.length_map]

theorem Tables.image_take_offset {t : Tables} (h : t.Sized) (name : TableName) {i : Nat} (hi : i ≤ entryLimit name) :
    (image (t.pendingEntries name)).take (name.offset i) = image ((t.pendingEntries name).take i) := by
  rw [← name.sum_take_widths hi, ← pendingEntries_widths h]
  exact List.take_sum_flatten _ i

theorem Tables.image_drop_offset {t : Tables} (h : t.Sized) (name : TableName) {i : Nat} (hi : i ≤ entryLimit name) :
    (image (t.pendingEntries name)).drop (name.offset i) = image ((t.pendingEntries name).drop i) := by
  rw [← name.sum_take_widths hi, ← pendingEntries_widths h]
  exact List.drop_sum_flatten _ i

/-- How many entries some bytes hold is the one count of which they have the width (R169). -/
theorem wholeEntries_eq_some_iff (name : TableName) (first : Nat) {len k : Nat} (hlen : 0 < len) :
    wholeEntries name first len = some k ↔ 1 ≤ k ∧ len = name.offset (first + k) - name.offset first := by
  cases name with
  | cal | meter | trigger =>
    simp only [wholeEntries, TableName.offset, Option.ite_none_right_eq_some, Option.some.injEq]
    omega
  | calendar =>
    simp only [wholeEntries, TableName.offset]
    by_cases hpoints : len ≤ 3 * (96 - first)
    · simp only [hpoints, if_true, Option.ite_none_right_eq_some, Option.some.injEq]
      split <;> split <;> omega
    · simp only [hpoints, if_false, Option.some.injEq]
      split <;> split <;> omega

/-! ### The entries that a write carries (R131) -/

/-- In a table whose entries all have the width `w`, the bytes of `count` entries are `w * count`. -/
theorem TableName.length_eq_mul {name : TableName} {w first count : Nat} {bytes : List Byte}
    (hwidth : ∀ i, name.offset i = w * i) (h : bytes.length = name.offset (first + count) - name.offset first) :
    bytes.length = w * count := by
  rw [h, hwidth, hwidth, ← Nat.mul_sub, Nat.add_sub_cancel_left]

/-- The bytes of the switch points among the entries of a CALENDAR write, and those of the week map and the offset. -/
theorem calendar_parts {first count : Nat} {bytes : List Byte}
    (h : bytes.length = TableName.calendar.offset (first + count) - TableName.calendar.offset first) :
    (bytes.take (3 * (96 - first))).length = 3 * min count (96 - first)
      ∧ (bytes.drop (3 * (96 - first))).length = count - (96 - first) := by
  simp only [TableName.offset] at h
  rw [List.length_take, List.length_drop]
  split at h <;> split at h <;> omega

/-- The bytes of a write cut into the encoded entries that they hold. -/
def TableName.writtenEntries (name : TableName) (first : Nat) (bytes : List Byte) : List (List Byte) :=
  match name with
  | .cal => pieces 10 bytes.length bytes
  | .meter => pieces 8 bytes.length bytes
  | .calendar =>
    pieces 3 (bytes.take (3 * (96 - first))).length (bytes.take (3 * (96 - first)))
      ++ (bytes.drop (3 * (96 - first))).map (fun b => [b])
  | .trigger => pieces 5 bytes.length bytes

theorem TableName.image_writtenEntries (name : TableName) (first : Nat) (bytes : List Byte) :
    image (name.writtenEntries first bytes) = bytes := by
  cases name with
  | cal | meter | trigger => exact pieces_flatten (by decide) _ _ le_rfl
  | calendar =>
    have hdays (l : List Byte) : (l.map (fun b => [b])).flatten = l := List.flatMap_singleton' l
    rw [image, writtenEntries, List.flatten_append, pieces_flatten (by decide) _ _ le_rfl, hdays,
      List.take_append_drop]

theorem TableName.writtenEntries_length (name : TableName) {first count : Nat} {bytes : List Byte}
    (h : bytes.length = name.offset (first + count) - name.offset first) :
    (name.writtenEntries first bytes).length = count := by
  cases name with
  | cal | meter | trigger => exact pieces_length (by decide) (length_eq_mul (fun _ => rfl) h)
  | calendar =>
    obtain ⟨hpoints, hdays⟩ := calendar_parts h
    rw [writtenEntries, List.length_append, pieces_length (by decide) hpoints, List.length_map, hdays]
    omega

/-! ### What a write makes of the encoded entries -/

/-- Decoded entries that are encoded again are the pieces they were decoded from. -/
theorem map_decoded {α : Type} {encode : α → List Byte} {decode : List Byte → α} {entries : List (List Byte)}
    (h : ∀ b ∈ entries, encode (decode b) = b) : (entries.map decode).map encode = entries := by
  rw [List.map_map]
  exact (List.map_congr_left h).trans (List.map_id entries)

theorem calEntries_writeCal (t : PerPhase CalEntry) (first : Nat) (entries : List CalEntry) :
    calEntries (writeCal t first entries) = overwrite (calEntries t) first (entries.map CalEntry.bytes) := by
  have htoList : (writeCal t first entries).toList = overwrite t.toList first entries := by
    obtain ⟨a, b, c, habc⟩ := List.length_eq_three.mp (overwrite_length t.toList first entries)
    rw [writeCal, habc]
    rfl
  rw [calEntries, htoList, map_overwrite, calEntries]

theorem fields_meterOf {l : List Nat} (h : l.length = 21) : (meterOf l).fields = l := by
  change (List.range 21).map (fun i => l.getD i 0) = l
  apply List.ext_getElem
  · simp [h]
  · intro i _ hi
    simp [hi]

theorem meterEntries_meterOf (m : Meter) (first : Nat) (values : List Nat) :
    meterEntries (meterOf (overwrite m.fields first values)) =
      overwrite (meterEntries m) first (values.map (beBytes 8)) := by
  rw [meterEntries, fields_meterOf (overwrite_length m.fields first values), map_overwrite, meterEntries]

/-- The bytes of a switch point (R130). -/
def SwitchPoint.bytes (p : SwitchPoint) : List Byte := beBytes 2 p.minute ++ beBytes 1 p.band

theorem calendarEntries_eq (t : CalendarTable) :
    calendarEntries t = t.points.map SwitchPoint.bytes ++ (t.week ++ [t.offset]).map (beBytes 1) := by
  rw [List.map_append, ← List.append_assoc]
  rfl

/-- The week map and the offset of a written CALENDAR copy. -/
theorem writeCalendar_days (t : CalendarTable) (first : Nat) (bytes : List Byte) :
    (writeCalendar t first bytes).week ++ [(writeCalendar t first bytes).offset] =
      overwrite (t.week ++ [t.offset]) (first - 96) ((bytes.drop (3 * (96 - first))).map BitVec.toNat) := by
  simp only [writeCalendar]
  generalize hdays : overwrite (t.week ++ [t.offset]) (first - 96) _ = days
  have hlength : days.length = t.week.length + 1 := by
    rw [← hdays, overwrite_length, List.length_append, List.length_singleton]
  have hlast : days.getD t.week.length t.offset = days[t.week.length] := by simp [hlength]
  rw [hlast, List.take_append_getElem, ← hlength, List.take_length]

theorem calendarEntries_writeCalendar {t : CalendarTable} {first count : Nat} {bytes : List Byte}
    (hsize : t.points.length = 96)
    (hbytes : bytes.length = TableName.calendar.offset (first + count) - TableName.calendar.offset first) :
    calendarEntries (writeCalendar t first bytes) =
      overwrite (calendarEntries t) first (TableName.calendar.writtenEntries first bytes) := by
  obtain ⟨hpoints, hdays⟩ := calendar_parts hbytes
  rw [calendarEntries_eq, calendarEntries_eq, writeCalendar_days, TableName.writtenEntries, overwrite_append,
    List.length_map, hsize]
  · congr 1
    · rw [writeCalendar, map_overwrite,
        map_decoded fun b hb => bytes_switchPoint (length_of_mem_pieces (by decide) hpoints b hb)]
    · rw [map_overwrite, List.map_map]
      exact congrArg _ (List.map_congr_left fun b _ => beBytes_toNat b)
  · rw [pieces_length (by decide) hpoints, List.length_map, hsize]
    omega
  · rw [← List.length_eq_zero_iff, List.length_map, hdays, pieces_length (by decide) hpoints, List.length_map, hsize]
    omega

theorem Tables.pendingEntries_write {t : Tables} (h : t.Sized) (name : TableName) {first count : Nat}
    {bytes : List Byte} (hbytes : bytes.length = name.offset (first + count) - name.offset first)
    (hmarks : name = .trigger → ∀ j < count, (bytes.getD (5 * j) 0).toNat ≤ 1) :
    (t.write name first bytes).pendingEntries name =
      overwrite (t.pendingEntries name) first (name.writtenEntries first bytes) := by
  cases name with
  | cal =>
    have hlength := TableName.length_eq_mul (fun _ => rfl) hbytes
    have hdecoded := map_decoded fun b hb => bytes_calEntryOf (length_of_mem_pieces (by decide) hlength b hb)
    exact (calEntries_writeCal _ _ _).trans (congrArg _ hdecoded)
  | meter =>
    have hlength := TableName.length_eq_mul (fun _ => rfl) hbytes
    have hdecoded := map_decoded fun b hb => beBytes_beNat (length_of_mem_pieces (by decide) hlength b hb)
    exact (meterEntries_meterOf _ _ _).trans (congrArg _ hdecoded)
  | calendar => exact calendarEntries_writeCalendar h.points hbytes
  | trigger =>
    have hlength := TableName.length_eq_mul (fun _ => rfl) hbytes
    have hmark := (forall_marks_iff hlength).mpr (hmarks rfl)
    have hdecoded := map_decoded fun b hb =>
      bytes_triggerEntryOf (length_of_mem_pieces (by decide) hlength b hb) (hmark b hb)
    exact (map_overwrite _ _ _ _).trans (congrArg _ hdecoded)

/-- An accepted write replaces the named bytes of the image and no other (R131, R133). -/
theorem Tables.image_write {t : Tables} (h : t.Sized) (name : TableName) {first count : Nat} {bytes : List Byte}
    (hbytes : bytes.length = name.offset (first + count) - name.offset first)
    (hrange : first + count ≤ entryLimit name)
    (hmarks : name = .trigger → ∀ j < count, (bytes.getD (5 * j) 0).toNat ≤ 1) :
    image ((t.write name first bytes).pendingEntries name) =
      (image (t.pendingEntries name)).take (name.offset first) ++ bytes
        ++ (image (t.pendingEntries name)).drop (name.offset (first + count)) := by
  have hcount := name.writtenEntries_length hbytes
  have hfits : first + (name.writtenEntries first bytes).length ≤ (t.pendingEntries name).length := by
    rwa [hcount, pendingEntries_length h]
  rw [pendingEntries_write h name hbytes hmarks, overwrite_of_le hfits, hcount,
    image_take_offset h name (Nat.le_of_add_right_le hrange), image_drop_offset h name hrange]
  conv_rhs => rw [← name.image_writtenEntries first bytes]
  simp only [image, List.flatten_append]

/-! ### The answer of a command that does nothing but write the table store (R157) -/

/-- A command of right length whose owner leaves a state that keeps the command queue is answered in that state. -/
theorem State.execute_of_reply (s t : State) {code : Byte} {params : List Byte} {rest : List (List Byte)}
    {ok : List Byte → Bool} {own : List Byte → State → Reply} {status : Status} {data : List Byte}
    (h : s.Executes code params rest) (hlength : ok params = true)
    (hown : own params (s.withCommands rest) = ⟨t.withCommands rest, status, data⟩) :
    s.execute code ok own = t.answered rest code status data := by
  have hanswer : s.execute code ok own = (own params (s.withCommands rest)).state.respond code
      (own params (s.withCommands rest)).status (own params (s.withCommands rest)).data :=
    (s.execute_of h ok own).trans (s.answerHead_of_ok rest code params ok own hlength)
  rw [hanswer, hown]
  exact t.respond_withCommands rest code status data

/-! ### WRITE TABLE: its length (R169) -/

@[simp] theorem tableOf_number (name : TableName) : tableOf name.number = some name := by cases name <;> rfl

theorem tableOf_eq_none {number : Byte} (h : 3 < number.toNat) : tableOf number = none := by
  have hother (n : Byte) (hn : n.toNat ≤ 3) : number ≠ n := by
    rintro rfl
    omega
  simp only [tableOf, hother 0 (by decide), hother 1 (by decide), hother 2 (by decide), hother 3 (by decide), if_false]

theorem writeLength_short {p : List Byte} (h : p.length < 3) : writeLength p = false := if_pos h

/-- Two bytes, then one byte or more: the whole entries decide. -/
theorem writeLength_number (name : TableName) (first : Byte) {bytes : List Byte} (h : 0 < bytes.length) :
    writeLength (name.number :: first :: bytes) = (wholeEntries name first.toNat bytes.length).isSome := by
  have hlong : ¬ (name.number :: first :: bytes).length < 3 := by
    simp only [List.length_cons]
    omega
  rw [writeLength, if_neg hlong]
  simp

theorem writeLength_unknown {number first b : Byte} {bytes : List Byte} (h : 3 < number.toNat) :
    writeLength (number :: first :: b :: bytes) = true := by
  simp [writeLength, tableOf_eq_none h]

section WriteTable

variable (s : State) {rest : List (List Byte)} {name : TableName} {first : Byte} {count : Nat} {bytes : List Byte}

theorem exec_writeTable_badLength {p : List Byte} (h : s.Executes 0x41#8 p rest) (hlength : writeLength p = false) :
    exec .writeTable s = .next (s.answered rest 0x41#8 .badCommand []) :=
  congrArg Host.Outcome.next ((s.execute_of h _ _).trans (s.answerHead_of_bad rest _ p _ writeTable hlength))

theorem exec_writeTable_partialEntry (h : s.Executes 0x41#8 (name.number :: first :: bytes) rest)
    (hpartial : ∀ count, 1 ≤ count → bytes.length ≠ name.offset (first.toNat + count) - name.offset first.toNat) :
    exec .writeTable s = .next (s.answered rest 0x41#8 .badCommand []) := by
  refine exec_writeTable_badLength s h ?_
  rcases Nat.eq_zero_or_pos bytes.length with hempty | hbytes
  · exact writeLength_short (by simp [hempty])
  · rw [writeLength_number name first hbytes, Option.isSome_eq_false_iff, Option.isNone_iff_eq_none,
      Option.eq_none_iff_forall_ne_some]
    intro k hwhole
    obtain ⟨hcount, hlen⟩ := (wholeEntries_eq_some_iff name first.toNat hbytes).mp hwhole
    exact hpartial k hcount hlen

theorem exec_writeTable_unknown {number b : Byte} (h : s.Executes 0x41#8 (number :: first :: b :: bytes) rest)
    (hnumber : 3 < number.toNat) : exec .writeTable s = .next (s.answered rest 0x41#8 .refusedRange []) := by
  refine congrArg Host.Outcome.next (s.execute_of_reply s h (writeLength_unknown hnumber) ?_)
  simp only [writeTable, List.getD_cons_zero, tableOf_eq_none hnumber]
  rfl

/-! ### WRITE TABLE of whole entries: its cases in their order (R131, R133) -/

theorem TableName.offset_lt (name : TableName) {i j : Nat} (h : i < j) : name.offset i < name.offset j := by
  cases name with
  | cal | meter | trigger =>
    simp only [offset]
    omega
  | calendar =>
    simp only [offset]
    split <;> split <;> omega

theorem wholeEntries_of_count (hcount : 1 ≤ count)
    (hbytes : bytes.length = name.offset (first.toNat + count) - name.offset first.toNat) :
    0 < bytes.length ∧ wholeEntries name first.toNat bytes.length = some count := by
  have hgrows := name.offset_lt (Nat.lt_add_of_pos_right (n := first.toNat) hcount)
  have hnonempty : 0 < bytes.length := by omega
  exact ⟨hnonempty, (wholeEntries_eq_some_iff name _ hnonempty).mpr ⟨hcount, hbytes⟩⟩

/-- A write of whole entries is answered as its owner replies. -/
theorem exec_writeTable_of_reply (h : s.Executes 0x41#8 (name.number :: first :: bytes) rest)
    (hnonempty : 0 < bytes.length) (hwhole : wholeEntries name first.toNat bytes.length = some count) {t : State}
    {status : Status}
    (hown : writeTable (name.number :: first :: bytes) (s.withCommands rest) = ⟨t.withCommands rest, status, []⟩) :
    exec .writeTable s = .next (t.answered rest 0x41#8 status []) := by
  have hlength : writeLength (name.number :: first :: bytes) = true := by
    rw [writeLength_number name first hnonempty, hwhole]
    rfl
  exact congrArg Host.Outcome.next (s.execute_of_reply t h hlength hown)

theorem writeTable_staged (hname : name ≠ .trigger) :
    writeTable (name.number :: first :: bytes) s = writeStaged name first.toNat bytes s := by
  cases name with
  | cal | meter | calendar => rfl
  | trigger => exact absurd rfl hname

theorem writeTable_trigger :
    writeTable (TableName.trigger.number :: first :: bytes) s = writeTrigger first.toNat bytes s := rfl

theorem writeTable_capturing (hcapture : s.capture.state ≠ .idle) :
    writeTable (TableName.trigger.number :: first :: bytes) s = s.refuse .refusedState := if_pos hcapture

/-- Past the table's last entry a write is refused, of TRIGGER after the capture state. -/
theorem writeTable_past (hcapture : name ≠ .trigger ∨ s.capture.state = .idle)
    (hrange : entryLimit name < first.toNat + count)
    (hwhole : wholeEntries name first.toNat bytes.length = some count) :
    writeTable (name.number :: first :: bytes) s = s.refuse .refusedRange := by
  by_cases hname : name = .trigger
  · subst hname
    simp [writeTable_trigger, writeTrigger, writeCount, hwhole, hrange, hcapture.resolve_left (not_not_intro rfl)]
  · simp [writeTable_staged s hname, writeStaged, writeCount, hwhole, hrange]

theorem writeTable_requested (hrange : first.toNat + count ≤ entryLimit name)
    (hwhole : wholeEntries name first.toNat bytes.length = some count) (hrequest : s.tables.request name = true) :
    writeTable (name.number :: first :: bytes) s = s.refuse .staged := by
  have hname : name ≠ .trigger := by
    rintro rfl
    exact Bool.noConfusion hrequest
  simp [writeTable_staged s hname, writeStaged, writeCount, hwhole, hrange.not_gt, hrequest]

theorem writeTable_illegalMark (hcapture : s.capture.state = .idle)
    (hrange : first.toNat + count ≤ entryLimit .trigger)
    (hwhole : wholeEntries .trigger first.toNat bytes.length = some count) (hmarks : enabledMarksLegal bytes ≠ true) :
    writeTable (TableName.trigger.number :: first :: bytes) s = s.refuse .refusedRange := by
  simp [writeTable_trigger, writeTrigger, writeCount, hcapture, hwhole, hrange.not_gt, hmarks]

theorem writeTable_accepted (hrange : first.toNat + count ≤ entryLimit name)
    (hwhole : wholeEntries name first.toNat bytes.length = some count) (hrequest : s.tables.request name = false)
    (htrigger : name = .trigger → s.capture.state = .idle ∧ enabledMarksLegal bytes = true) :
    writeTable (name.number :: first :: bytes) s =
      State.okay { s with tables := s.tables.write name first.toNat bytes } [] := by
  by_cases hname : name = .trigger
  · subst hname
    obtain ⟨hcapture, hmarks⟩ := htrigger rfl
    simp [writeTable_trigger, writeTrigger, writeCount, hcapture, hwhole, hrange.not_gt, hmarks]
  · simp [writeTable_staged s hname, writeStaged, writeCount, hwhole, hrange.not_gt, hrequest]

end WriteTable

/-- What a write leaves of the table store: the other pending copies, the active copies and the requests (R131). -/
theorem Tables.write_frame (t : Tables) (name : TableName) (first : Nat) (bytes : List Byte) :
    (name ≠ .cal → (t.write name first bytes).calPending = t.calPending)
      ∧ (name ≠ .meter → (t.write name first bytes).meterPending = t.meterPending)
      ∧ (name ≠ .calendar → (t.write name first bytes).calendarPending = t.calendarPending)
      ∧ (name ≠ .trigger → (t.write name first bytes).trigger = t.trigger)
      ∧ ((t.write name first bytes).calActive, (t.write name first bytes).meterActive,
          (t.write name first bytes).calendarActive) = (t.calActive, t.meterActive, t.calendarActive)
      ∧ ((t.write name first bytes).calRequest, (t.write name first bytes).meterRequest,
          (t.write name first bytes).calendarRequest) = (t.calRequest, t.meterRequest, t.calendarRequest) := by
  cases name <;> simp [Tables.write]

/-! ### CANCEL APPLY (R139) -/

section CancelApply

variable (s : State) {rest : List (List Byte)} {name : TableName}

theorem cancelApply_unstaged {number : Byte} (h : 2 < number.toNat) :
    cancelApply [number] s = s.refuse .refusedRange := by
  rcases Nat.lt_or_ge 3 number.toNat with hunknown | htrigger
  · simp [cancelApply, tableOf_eq_none hunknown]
  · obtain rfl : number = TableName.trigger.number := BitVec.eq_of_toNat_eq (Nat.le_antisymm htrigger h)
    rfl

theorem cancelApply_staged (h : name.number.toNat ≤ 2) : cancelApply [name.number] s = cancelStaged name s := by
  cases name with
  | cal | meter | calendar => rfl
  | trigger => exact absurd h (by decide)

/-- A withdrawn request is the one change (R139). -/
theorem Tables.setRequest_frame (t : Tables) (name : TableName) (v : Bool) :
    { t.setRequest name v with
      calRequest := t.calRequest, meterRequest := t.meterRequest, calendarRequest := t.calendarRequest } = t := by
  cases name <;> rfl

theorem Tables.request_setRequest_false (t : Tables) (name other : TableName) :
    (t.setRequest name false).request other = if other = name then false else t.request other := by
  cases name <;> cases other <;> rfl

theorem exec_cancelApply_of_reply {number : Byte} (h : s.Executes 0x43#8 [number] rest) {t : State} {status : Status}
    (hown : cancelApply [number] (s.withCommands rest) = ⟨t.withCommands rest, status, []⟩) :
    exec .cancelApply s = .next (t.answered rest 0x43#8 status []) :=
  congrArg Host.Outcome.next (s.execute_of_reply t h rfl hown)

theorem exec_cancelApply_unstaged {number : Byte} (h : s.Executes 0x43#8 [number] rest) (hnumber : 2 < number.toNat) :
    exec .cancelApply s = .next (s.answered rest 0x43#8 .refusedRange []) :=
  exec_cancelApply_of_reply s h (cancelApply_unstaged (s.withCommands rest) hnumber)

theorem exec_cancelApply_notRequested (h : s.Executes 0x43#8 [name.number] rest) (hstaged : name.number.toNat ≤ 2)
    (hrequest : s.tables.request name = false) :
    exec .cancelApply s = .next (s.answered rest 0x43#8 .notFound []) := by
  have hrefused : cancelStaged name (s.withCommands rest) = (s.withCommands rest).refuse .notFound :=
    if_neg (Bool.eq_false_iff.mp hrequest)
  exact exec_cancelApply_of_reply s h ((cancelApply_staged (s.withCommands rest) hstaged).trans hrefused)

theorem exec_cancelApply_requested (h : s.Executes 0x43#8 [name.number] rest) (hstaged : name.number.toNat ≤ 2)
    (hrequest : s.tables.request name = true) :
    exec .cancelApply s = .next
      (({ s with tables := s.tables.setRequest name false } : State).answered rest 0x43#8 .ok []) := by
  refine exec_cancelApply_of_reply s h ((cancelApply_staged (s.withCommands rest) hstaged).trans ?_)
  exact if_pos hrequest

end CancelApply

/-- Settles O48. A write acts on the list of encoded entries, of known widths, so that it replaces the bytes of the image
between two offsets; each refusal is the owner's at its place in the order of checks. -/
theorem writeAndCancelActOnThePendingCopy : Obligations.WriteAndCancelActOnThePendingCopy := by
  intro s rest name last hlaw hlast
  have hlimit : entryLimit name = last + 1 := by
    simp only [List.mem_cons, Prod.mk.injEq, List.not_mem_nil, or_false] at hlast
    rcases hlast with ⟨rfl, rfl⟩ | ⟨rfl, rfl⟩ | ⟨rfl, rfl⟩ | ⟨rfl, rfl⟩ <;> rfl
  refine ⟨fun first count bytes h hcount hbytes => ?_, fun first bytes => exec_writeTable_partialEntry s,
    fun number first b bytes => exec_writeTable_unknown s,
    fun p h hshort => exec_writeTable_badLength s h (writeLength_short hshort), fun number h => ?_⟩
  · obtain ⟨hnonempty, hwhole⟩ := wholeEntries_of_count hcount hbytes
    have hpast : last < first.toNat + count - 1 ↔ entryLimit name < first.toNat + count := by omega
    have hwithin : first.toNat + count - 1 ≤ last ↔ first.toNat + count ≤ entryLimit name := by omega
    have hlegal (hname : name = .trigger) :
        enabledMarksLegal bytes = true ↔ ∀ j < count, (bytes.getD (5 * j) 0).toNat ≤ 1 := by
      subst hname
      exact enabledMarksLegal_iff (TableName.length_eq_mul (fun _ => rfl) hbytes)
    simp only [hpast, hwithin]
    refine ⟨?_, ?_, ?_, ?_, ?_⟩
    · rintro rfl hcapture
      exact exec_writeTable_of_reply s h hnonempty hwhole (writeTable_capturing (s.withCommands rest) hcapture)
    · intro hcapture hrange
      exact exec_writeTable_of_reply s h hnonempty hwhole (writeTable_past (s.withCommands rest) hcapture hrange hwhole)
    · intro hrange hrequest
      exact exec_writeTable_of_reply s h hnonempty hwhole
        (writeTable_requested (s.withCommands rest) hrange hwhole hrequest)
    · rintro rfl hcapture hrange hmarks
      exact exec_writeTable_of_reply s h hnonempty hwhole
        (writeTable_illegalMark (s.withCommands rest) hcapture hrange hwhole (mt (hlegal rfl).mp hmarks))
    · intro hrange hrequest htrigger
      have haccepted := writeTable_accepted (s.withCommands rest) hrange hwhole hrequest
        fun hname => ⟨(htrigger hname).1, (hlegal hname).mpr (htrigger hname).2⟩
      exact ⟨s.tables.write name first.toNat bytes, exec_writeTable_of_reply s h hnonempty hwhole haccepted,
        Tables.image_write hlaw.sized name hbytes hrange fun hname => (htrigger hname).2, s.tables.write_frame _ _ _⟩
  · refine ⟨exec_cancelApply_unstaged s h, ?_, ?_⟩
    · rintro hstaged rfl hrequest
      exact exec_cancelApply_notRequested s h hstaged hrequest
    · rintro hstaged rfl hrequest
      exact ⟨_, exec_cancelApply_requested s h hstaged hrequest, s.tables.setRequest_frame name false,
        (s.tables.request_setRequest_false name name).trans (if_pos rfl),
        fun other hother => (s.tables.request_setRequest_false name other).trans (if_neg hother)⟩

end Sys2Proof.Machine

/-! # CLEAR FLAGS and SET MASK: the commands that write the fault monitor -/

namespace Sys2Proof.Machine

/-! ### Flag sets by their indices (section 9.2) -/

theorem FlagSet.ne_zero_iff (s : FlagSet) : s ≠ 0#48 ↔ ∃ k, s.getLsbD k = true := by
  constructor
  · intro hs
    by_contra hnone
    refine hs (BitVec.eq_of_getLsbD_eq fun i _ => ?_)
    rw [BitVec.getLsbD_zero]
    exact Bool.eq_false_iff.mpr fun hi => hnone ⟨i, hi⟩
  · rintro ⟨k, hk⟩ rfl
    simp at hk

/-- The flags have the indices 0 to 40. -/
theorem unnamedFlags_getLsbD (k : Nat) : unnamedFlags.getLsbD k = decide (41 ≤ k ∧ k < 48) := by
  have hshift : unnamedFlags = BitVec.allOnes 48 <<< 41 := rfl
  rw [hshift, BitVec.getLsbD_shiftLeft, BitVec.getLsbD_allOnes, Bool.eq_iff_iff]
  simp only [Bool.and_eq_true, Bool.not_eq_true', decide_eq_true_eq, decide_eq_false_iff_not]
  omega

/-- A set that names no flag has an index above 40. -/
theorem FlagSet.and_unnamedFlags_ne_zero_iff (s : FlagSet) :
    s &&& unnamedFlags ≠ 0#48 ↔ ∃ k, 41 ≤ k ∧ s.getLsbD k = true := by
  rw [FlagSet.ne_zero_iff]
  refine exists_congr fun k => ?_
  have hwidth : s.getLsbD k = true → k < 48 := BitVec.lt_of_getLsbD
  rw [BitVec.getLsbD_and, unnamedFlags_getLsbD, Bool.and_eq_true, decide_eq_true_iff]
  exact ⟨fun ⟨hk, hunnamed, _⟩ => ⟨hunnamed, hk⟩, fun ⟨hunnamed, hk⟩ => ⟨hk, hunnamed, hwidth hk⟩⟩

theorem FlagSet.and_unnamedFlags_eq_zero_iff (s : FlagSet) :
    s &&& unnamedFlags = 0#48 ↔ ∀ k, 41 ≤ k → s.getLsbD k = false := by
  rw [← not_iff_not, ← ne_eq, FlagSet.and_unnamedFlags_ne_zero_iff]
  push Not
  simp only [ne_eq, Bool.not_eq_false]

theorem toNat_append_byte {n : Nat} (x : BitVec n) (b : Byte) : (x ++ b).toNat = x.toNat * 256 + b.toNat := by
  rw [BitVec.toNat_append, ← Nat.shiftLeft_add_eq_or_of_lt b.isLt, Nat.shiftLeft_eq]

/-- The six bytes of a flag set, the last one on the high end (R167). -/
theorem flagSetOf_six (b0 b1 b2 b3 b4 b5 : Byte) :
    flagSetOf [b0, b1, b2, b3, b4, b5] = b5 ++ b4 ++ b3 ++ b2 ++ b1 ++ b0 := by
  apply BitVec.eq_of_toNat_eq
  have h0 := b0.isLt
  have h1 := b1.isLt
  have h2 := b2.isLt
  have h3 := b3.isLt
  have h4 := b4.isLt
  have h5 := b5.isLt
  simp only [flagSetOf, beNat, List.reverse_cons, List.reverse_nil, List.nil_append, List.cons_append, List.foldl_cons,
    List.foldl_nil, BitVec.toNat_ofNat, toNat_append_byte]
  omega

/-- Index `k` stands in the byte `k / 8` (R167). -/
theorem flagSetBytes_getLsbD (f : FlagSet) {k : Nat} (hk : k < 48) :
    ((flagSetBytes f).getD (k / 8) 0).getLsbD (k % 8) = f.getLsbD k := by
  have hlow : k % 8 < 8 := Nat.mod_lt k (by decide)
  have hbyte : k / 8 < 6 := by omega
  have hget : (flagSetBytes f).getD (k / 8) 0 = f.extractLsb' (8 * (k / 8)) 8 := by
    generalize k / 8 = j at hbyte
    interval_cases j <;> rfl
  rw [hget, BitVec.getLsbD_extractLsb', Nat.div_add_mod]
  simp [-BitVec.getLsbD_eq_getElem, hlow]

/-! ### The monitor's operations (R142, R143, R144) -/

/-- The summary is high while an unmasked flag is latched (R144). -/
theorem Monitor.formAlert_alert_iff (m : Monitor) :
    m.formAlert.alert = true ↔ ∃ k, m.latched.getLsbD k = true ∧ m.mask.getLsbD k = false := by
  rw [Monitor.formAlert, decide_eq_true_iff, FlagSet.ne_zero_iff]
  refine exists_congr fun k => ?_
  have hwidth : m.latched.getLsbD k = true → k < 48 := BitVec.lt_of_getLsbD
  rw [BitVec.getLsbD_and, BitVec.getLsbD_not]
  simp only [Bool.and_eq_true, Bool.not_eq_true', decide_eq_true_eq]
  exact ⟨fun ⟨hk, _, hmask⟩ => ⟨hk, hmask⟩, fun ⟨hk, hmask⟩ => ⟨hk, hwidth hk, hmask⟩⟩

/-- A named flag whose condition is not true is cleared, and no other (R142). -/
theorem Monitor.clear_latched_getLsbD (m : Monitor) (named : FlagSet) (k : Nat) :
    (m.clear named).latched.getLsbD k =
      (m.latched.getLsbD k && !(named.getLsbD k && !m.conditions.getLsbD k)) := by
  have hlatched : (m.clear named).latched = m.latched &&& ~~~(named &&& ~~~m.conditions) := rfl
  rw [hlatched]
  by_cases hk : k < 48
  · simp [-BitVec.getLsbD_eq_getElem, hk]
  · simp [BitVec.getLsbD_of_ge _ _ (Nat.le_of_not_lt hk)]

theorem Monitor.clear_alert_iff (m : Monitor) (named : FlagSet) :
    (m.clear named).alert = true ↔ ∃ k, (m.clear named).latched.getLsbD k = true ∧ m.mask.getLsbD k = false :=
  Monitor.formAlert_alert_iff { m with latched := m.latched &&& ~~~(named &&& ~~~m.conditions) }

theorem Monitor.setMask_alert_iff (m : Monitor) (mask : FlagSet) :
    (m.setMask mask).alert = true ↔ ∃ k, m.latched.getLsbD k = true ∧ mask.getLsbD k = false :=
  Monitor.formAlert_alert_iff { m with mask := mask }

/-! ### The commands -/

section FlagCommands

variable (s : State) {p : List Byte} {rest : List (List Byte)}

theorem exec_clearFlags_unnamed (h : s.Executes 0x49#8 p rest) (hlength : p.length = 6)
    (hunnamed : ∃ k, 41 ≤ k ∧ (flagSetOf p).getLsbD k = true) :
    exec .clearFlags s = .next (s.answered rest 0x49#8 .refusedRange []) := by
  have hrefused : clearFlags p (s.withCommands rest) = (s.withCommands rest).refuse .refusedRange :=
    if_pos ((FlagSet.and_unnamedFlags_ne_zero_iff _).mpr hunnamed)
  exact congrArg Host.Outcome.next (s.execute_of_refused h hlength hrefused)

theorem exec_clearFlags_named (h : s.Executes 0x49#8 p rest) (hlength : p.length = 6)
    (hnamed : ∀ k, 41 ≤ k → (flagSetOf p).getLsbD k = false) :
    exec .clearFlags s = .next
      (({ s with monitor := s.monitor.clear (flagSetOf p) } : State).answered rest 0x49#8 .ok
        (flagSetBytes (flagSetOf p &&& (s.monitor.clear (flagSetOf p)).latched))) := by
  have haccepted : clearFlags p (s.withCommands rest) =
      ⟨({ s with monitor := s.monitor.clear (flagSetOf p) } : State).withCommands rest, .ok,
        flagSetBytes (flagSetOf p &&& (s.monitor.clear (flagSetOf p)).latched)⟩ :=
    if_neg (not_not_intro ((FlagSet.and_unnamedFlags_eq_zero_iff _).mpr hnamed))
  exact congrArg Host.Outcome.next (s.execute_of_reply _ h (by simp [lengthIs, hlength]) haccepted)

theorem exec_setMask_unnamed (h : s.Executes 0x4A#8 p rest) (hlength : p.length = 6)
    (hunnamed : ∃ k, 41 ≤ k ∧ (flagSetOf p).getLsbD k = true) :
    exec .setMask s = .next (s.answered rest 0x4A#8 .refusedRange []) := by
  have hrefused : setMask p (s.withCommands rest) = (s.withCommands rest).refuse .refusedRange :=
    if_pos ((FlagSet.and_unnamedFlags_ne_zero_iff _).mpr hunnamed)
  exact congrArg Host.Outcome.next (s.execute_of_refused h hlength hrefused)

theorem exec_setMask_named (h : s.Executes 0x4A#8 p rest) (hlength : p.length = 6)
    (hnamed : ∀ k, 41 ≤ k → (flagSetOf p).getLsbD k = false) :
    exec .setMask s = .next
      (({ s with monitor := s.monitor.setMask (flagSetOf p) } : State).answered rest 0x4A#8 .ok []) := by
  have haccepted : setMask p (s.withCommands rest) =
      ⟨({ s with monitor := s.monitor.setMask (flagSetOf p) } : State).withCommands rest, .ok, []⟩ :=
    if_neg (not_not_intro ((FlagSet.and_unnamedFlags_eq_zero_iff _).mpr hnamed))
  exact congrArg Host.Outcome.next (s.execute_of_reply _ h (by simp [lengthIs, hlength]) haccepted)

end FlagCommands

/-- Settles O52. The parameters carry the named set; where it names flags alone, the commands are `Monitor.clear` and
`Monitor.setMask`, which are read off index by index. -/
theorem clearFlagsAndSetMask : Obligations.ClearFlagsAndSetMask := by
  intro s rest b0 b1 b2 b3 b4 b5 named hnamed
  rw [← flagSetOf_six] at hnamed
  subst hnamed
  refine ⟨fun h => ⟨exec_clearFlags_unnamed s h rfl, fun hnamed => ?_⟩,
    fun h => ⟨exec_setMask_unnamed s h rfl, fun hnamed => ?_⟩⟩
  · exact ⟨(s.monitor.clear _).latched, (s.monitor.clear _).alert, _, exec_clearFlags_named s h rfl hnamed,
      s.monitor.clear_latched_getLsbD _, s.monitor.clear_alert_iff _, rfl,
      fun k hk => (flagSetBytes_getLsbD _ hk).trans BitVec.getLsbD_and⟩
  · exact ⟨(s.monitor.setMask _).alert, exec_setMask_named s h rfl hnamed, s.monitor.setMask_alert_iff _⟩

end Sys2Proof.Machine

/-! # CAPTURE ARM, TRIGGER and STOP: the commands that move the capture unit -/

namespace Sys2Proof.Machine

/-! ### What CAPTURE ARM reads from its parameters (R170, R171) -/

/-- Two parameter bytes carry a number, the first one on the high end (R170). -/
theorem beNat_pair (a b : Byte) : beNat [a, b] = (a ++ b).toNat := by
  simp [beNat, toNat_append_byte]

@[simp] theorem captureModeOf_captureModeCode (m : CaptureMode) : captureModeOf (captureModeCode m) = some m := by
  cases m <;> rfl

theorem captureModeOf_eq_none {b : Byte} (h : 2 < b.toNat) : captureModeOf b = none := by
  have hother (n : Byte) (hn : n.toNat ≤ 2) : b ≠ n := by
    rintro rfl
    omega
  simp only [captureModeOf, hother 0 (by decide), hother 1 (by decide), hother 2 (by decide), if_false]

/-! ### CAPTURE ARM (R171): its checks in their order -/

section CaptureArm

variable (s : State) {p : List Byte}

theorem captureArm_refusedState (hstate : s.engine.state = .failsafe ∨ s.capture.state ≠ .idle) :
    captureArm p s = s.refuse .refusedState := if_pos hstate

theorem captureArm_refusedRange (hstate : ¬ (s.engine.state = .failsafe ∨ s.capture.state ≠ .idle))
    (hrange : captureModeOf (p.getD 0 0) = none ∨ 4095 < beNat ((p.drop 1).take 2) ∨ beNat (p.drop 3) = 0
      ∨ 256 < beNat (p.drop 3)) :
    captureArm p s = s.refuse .refusedRange := by
  refine (if_neg hstate).trans ?_
  cases hmode : captureModeOf (p.getD 0 0) with
  | none => rfl
  | some mode => exact if_pos (hrange.resolve_left (ne_of_eq_of_ne hmode (Option.some_ne_none mode)))

theorem captureArm_accepted {m : CaptureMode} (hstate : ¬ (s.engine.state = .failsafe ∨ s.capture.state ≠ .idle))
    (hmode : captureModeOf (p.getD 0 0) = some m) (hcount : beNat ((p.drop 1).take 2) ≤ 4095)
    (hlow : 1 ≤ beNat (p.drop 3)) (hhigh : beNat (p.drop 3) ≤ 256) :
    captureArm p s =
      ({ s with capture := s.capture.arm m (beNat ((p.drop 1).take 2)) (beNat (p.drop 3)) } : State).okay [] := by
  have hrange : ¬ (4095 < beNat ((p.drop 1).take 2) ∨ beNat (p.drop 3) = 0 ∨ 256 < beNat (p.drop 3)) := by omega
  simp only [captureArm, if_neg hstate, hmode, if_neg hrange]

end CaptureArm

/-! ### The executed commands (R171, R172, R175) -/

section CaptureCommands

variable (s : State) {rest : List (List Byte)}

theorem exec_captureArm_of_reply {p : List Byte} (h : s.Executes 0x50#8 p rest) (hlength : p.length = 5) {t : State}
    {status : Status} (hown : captureArm p (s.withCommands rest) = ⟨t.withCommands rest, status, []⟩) :
    exec .captureArm s = .next (t.answered rest 0x50#8 status []) :=
  congrArg Host.Outcome.next (s.execute_of_reply t h (by simp [lengthIs, hlength]) hown)

theorem exec_captureTrigger_not_armed (h : s.Executes 0x51#8 [] rest) (hstate : s.capture.state ≠ .armed) :
    exec .captureTrigger s = .next (s.answered rest 0x51#8 .refusedState []) := by
  have hrefused : captureTrigger [] (s.withCommands rest) = (s.withCommands rest).refuse .refusedState := if_neg hstate
  exact congrArg Host.Outcome.next (s.execute_of_refused h rfl hrefused)

theorem exec_captureTrigger_armed (h : s.Executes 0x51#8 [] rest) (hstate : s.capture.state = .armed) :
    exec .captureTrigger s =
      .next (({ s with capture := s.capture.trigger } : State).answered rest 0x51#8 .ok []) := by
  have haccepted : captureTrigger [] (s.withCommands rest) =
      (({ s with capture := s.capture.trigger } : State).withCommands rest).okay [] := if_pos hstate
  exact congrArg Host.Outcome.next (s.execute_of_reply _ h rfl haccepted)

theorem exec_captureStop_idle (h : s.Executes 0x52#8 [] rest) (hstate : s.capture.state = .idle) :
    exec .captureStop s = .next (s.answered rest 0x52#8 .refusedState []) := by
  have hrefused : captureStop [] (s.withCommands rest) = (s.withCommands rest).refuse .refusedState := if_pos hstate
  exact congrArg Host.Outcome.next (s.execute_of_refused h rfl hrefused)

theorem exec_captureStop_not_idle (h : s.Executes 0x52#8 [] rest) (hstate : s.capture.state ≠ .idle) :
    exec .captureStop s = .next
      (({ s with capture := { s.capture with state := .idle } } : State).answered rest 0x52#8 .ok []) := by
  have haccepted : captureStop [] (s.withCommands rest) =
      (({ s with capture := { s.capture with state := .idle } } : State).withCommands rest).okay [] := if_neg hstate
  exact congrArg Host.Outcome.next (s.execute_of_reply _ h rfl haccepted)

end CaptureCommands

/-- Settles O59. Each answer is the owner's at its place in the order of the checks, and an accepted command writes
the capture unit alone; none of them sees that the command has left its queue. -/
theorem captureCommandsMoveTheUnit : Obligations.CaptureCommandsMoveTheUnit := by
  intro s rest mode c1 c2 d1 d2 count decimation hcount hdecimation
  rw [← beNat_pair] at hcount hdecimation
  subst hcount hdecimation
  have hallowed (hengine : s.engine.state ≠ .failsafe) (hidle : s.capture.state = .idle) :
      ¬ (s.engine.state = .failsafe ∨ s.capture.state ≠ .idle) := not_or.mpr ⟨hengine, not_not_intro hidle⟩
  refine ⟨fun h => ⟨fun hstate => ?_, fun hengine hidle hrange => ?_, ?_⟩,
    fun h => ⟨exec_captureTrigger_not_armed s h, exec_captureTrigger_armed s h⟩,
    fun h => ⟨exec_captureStop_idle s h, exec_captureStop_not_idle s h⟩⟩
  · exact exec_captureArm_of_reply s h rfl (captureArm_refusedState (s.withCommands rest) hstate)
  · exact exec_captureArm_of_reply s h rfl
      (captureArm_refusedRange (s.withCommands rest) (hallowed hengine hidle) (hrange.imp_left captureModeOf_eq_none))
  · rintro m hengine hidle rfl hmost hlow hhigh
    exact exec_captureArm_of_reply s h rfl (captureArm_accepted (s.withCommands rest) (hallowed hengine hidle)
      (captureModeOf_captureModeCode m) hmost hlow hhigh)

end Sys2Proof.Machine

/-! # The step itself: the front of the queue, the power-on reset, and what every step keeps -/

namespace Sys2Proof.Machine

/-! ### The queue of steps and the power-on reset (R1, log 1) -/

/-- Settles O1: the two cases of the step's definition. -/
theorem stepTakesTheFrontCommand : Obligations.StepTakesTheFrontCommand :=
  ⟨fun _ _ _ hpending => by simp only [step, hpending], fun _ hpending => by simp only [step, hpending]⟩

/-- While the power-on reset is applied, a step acts through one of the two guards, and neither lets it (R1). -/
theorem State.after_of_resetApplied (s : State) (h : s.resetApplied = true) (act : State → State) :
    s.after act = s := by
  simp [State.after, h]

theorem State.unlessReset_of_resetApplied (s : State) (h : s.resetApplied = true) (act : State → State) :
    s.unlessReset act = s := by
  simp [State.unlessReset, h]

theorem State.execute_of_resetApplied (s : State) (h : s.resetApplied = true) (code : Byte) (ok : List Byte → Bool)
    (own : List Byte → State → Reply) : s.execute code ok own = s :=
  s.after_of_resetApplied h _

/-- Settles O2. The two rows of the reset are their definitions; every other row is guarded by the mark of the applied reset. -/
theorem powerOnResetAppliesAndEnds : Obligations.PowerOnResetAppliesAndEnds := by
  refine ⟨fun s => ⟨rfl, rfl⟩, fun c s happlied hreset hends => ?_⟩
  cases c with
  | powerOnReset => exact absurd rfl hreset
  | powerOnResetEnds => exact absurd rfl hends
  | qualityPeriodEnd | captureTerminalCount | timebaseEnd | terminalCount | minuteRollover =>
    exact congrArg _ (s.unlessReset_of_resetApplied happlied _)
  | _ => exact congrArg _ (s.after_of_resetApplied happlied _)

/-- Every register of the power-on accounts is zero (R97). -/
theorem accountsAtPowerOn_registers : ∀ r ∈ accountsAtPowerOn.registers, r = 0 := by decide

theorem accountsAtPowerOn_residues : ∀ r ∈ accountsAtPowerOn.residues, r = 0 := by decide

/-- Settles O3: each value is that of a literal of the power-on state. -/
theorem powerOnValuesOfTheManual : Obligations.PowerOnValuesOfTheManual := by
  refine ⟨fun x => ?_, ?_⟩
  · cases x <;>
      exact ⟨rfl, rfl, rfl, rfl, rfl, rfl, rfl, rfl, rfl, rfl, rfl, rfl, rfl, rfl,
        ⟨rfl, rfl, rfl, rfl, rfl, rfl, rfl⟩, rfl, rfl, rfl, rfl, rfl, rfl, rfl, rfl⟩
  · have hsums (x : Phase) : State.reset.engine.summary.sums.get x = sumsZero := PerPhase.get_all sumsZero x
    refine ⟨rfl, rfl, rfl, rfl, rfl, rfl, rfl, rfl, rfl, rfl, ⟨rfl, rfl, hsums⟩, rfl, rfl, rfl, rfl,
      accountsAtPowerOn_registers, accountsAtPowerOn_residues, rfl,
      ⟨rfl, accountsAtPowerOn_registers, accountsAtPowerOn_residues, rfl, rfl⟩, rfl, rfl, rfl, rfl, rfl,
      ⟨rfl, rfl, rfl, rfl, rfl, rfl, rfl⟩, rfl, rfl, rfl, rfl, rfl, rfl, rfl, rfl, rfl, rfl, rfl, rfl, rfl, rfl, rfl, rfl,
      rfl, rfl, rfl, rfl, rfl, rfl, rfl, rfl, rfl, rfl, rfl⟩

end Sys2Proof.Machine

/-! # What comes about at once (log 3) -/

namespace Sys2Proof.Machine

/-! ### After each of these steps, the step is no longer due -/

theorem State.changeLane_lanes (s : State) (x : Phase) (l : Lane) : (s.changeLane x l).lanes = s.lanes.set x l := by
  simp [State.changeLane]

theorem State.endPeriod_lanes_get (s : State) (x y : Phase) :
    (s.endPeriod x).lanes.get y = if y = x then
      { s.lanes.get x with
        state := (s.lanes.get x).judgePeriod s.tables.meterActive
        lastPeriodErrors := (s.lanes.get x).periodErrors, periodPosition := 0, periodErrors := 0 }
    else s.lanes.get y := by
  rw [State.endPeriod, State.changeLane_lanes, PerPhase.get_set]

/-- The end of a quality period takes its own position back to 0 and leaves the other lanes. -/
theorem State.takePeriodEnd_periodDue (s : State) (x y : Phase) :
    ((s.takePeriodEnd x).lanes.get y).periodDue = (decide (y ≠ x) && (s.lanes.get y).periodDue) := by
  by_cases hdue : (s.lanes.get x).periodDue = true
  · rw [State.takePeriodEnd, if_pos hdue, State.endPeriod_lanes_get]
    by_cases hxy : y = x
    · simp [hxy, Lane.periodDue, Config.qualityPeriod]
    · simp [hxy]
  · rw [State.takePeriodEnd, if_neg hdue]
    by_cases hxy : y = x <;> simp_all

theorem State.takeCaptureTerminal_terminalDue (s : State) : s.takeCaptureTerminal.capture.terminalDue = false := by
  by_cases hdue : s.capture.terminalDue = true
  · have hmode : s.capture.mode ≠ .stream := by
      simp only [Capture.terminalDue, Bool.and_eq_true, decide_eq_true_eq] at hdue
      exact hdue.1.2
    rw [State.takeCaptureTerminal, if_pos hdue]
    cases hm : s.capture.mode <;> simp_all [Capture.terminal, Capture.terminalDue]
  · rw [State.takeCaptureTerminal, if_neg hdue]
    exact Bool.eq_false_iff.mpr hdue

theorem Timebase.length_pos (t : Timebase) {n : Nat} (h : t.length = some n) : 0 < n := by
  cases t <;> simp [Timebase.length] at h <;> omega

theorem State.endTimebase_checkers_get (s : State) (x y : Phase) (h : y ≠ x) :
    (s.endTimebase x).checkers.get y = s.checkers.get y := by
  simp only [State.endTimebase]
  split <;> simp [PerPhase.get_set, h]

/-- The end of a timebase takes its own count back to 0 and leaves the other lanes. -/
theorem State.takeTimebaseEnd_timebaseDue (s : State) (x y : Phase) :
    (s.takeTimebaseEnd x).timebaseDue y = (decide (y ≠ x) && s.timebaseDue y) := by
  by_cases hdue : s.timebaseDue x = true
  · rw [State.takeTimebaseEnd, if_pos hdue]
    by_cases hxy : y = x
    · subst hxy
      have hcount : ((s.endTimebase y).checkers.get y).timebaseCount = 0
          ∧ ((s.endTimebase y).checkers.get y).timebase = (s.checkers.get y).timebase := by
        simp only [State.endTimebase]
        split <;> simp
      obtain ⟨hcount, hbase⟩ := hcount
      simp only [State.timebaseDue, hcount, hbase]
      split
      · simp
      · rename_i n hn
        simpa using (Timebase.length_pos _ hn).ne'
    · simp [State.timebaseDue, s.endTimebase_checkers_get x y hxy, hxy]
  · rw [State.takeTimebaseEnd, if_neg hdue]
    by_cases hxy : y = x <;> simp_all

theorem State.endInterval_terminal (s : State) : s.endInterval.demand.terminal = s.demand.terminal := by
  unfold State.endInterval; split <;> rfl

theorem State.takeTerminal_terminal (s : State) : s.takeTerminal.demand.terminal = false := by
  unfold State.takeTerminal
  split
  · rw [State.takeTerminalCount, State.endInterval_terminal]
  · simp_all

theorem State.takeRollover_terminal (s : State) : s.takeRollover.demand.terminal = s.demand.terminal := by
  unfold State.takeRollover
  split
  · unfold State.rollover State.minuteToDemand
    split <;> simp [State.endInterval_terminal]
  · rfl

theorem State.takeRollover_rolloverDue (s : State) : s.takeRollover.calendar.rolloverDue = false := by
  unfold State.takeRollover
  split
  · simp [State.rollover, Calendar.rolloverDue, Config.strobesPerMinute]
  · simp_all

theorem State.timebaseDue_congr {s t : State} (h : s.checkers = t.checkers) (x : Phase) :
    s.timebaseDue x = t.timebaseDue x := by
  simp only [State.timebaseDue, h]

/-- A step at its turn is not made due again by those after it, so nothing that comes about at once is due any more. -/
theorem State.settle_quiet (s : State) : s.settle.quiet = true := by
  have hperiods (x : Phase) : (s.settle.lanes.get x).periodDue = false := by
    simp only [State.settle, State.takeRollover_frame, State.takeTerminal_frame, State.takeTimebaseEnd_frame,
      State.takeCaptureTerminal_frame, State.takePeriodEnd_periodDue]
    cases x <;> simp
  have hcapture : s.settle.capture.terminalDue = false := by
    simp only [State.settle, State.takeRollover_frame, State.takeTerminal_frame, State.takeTimebaseEnd_frame,
      State.takeCaptureTerminal_terminalDue]
  have htimebase (x : Phase) : s.settle.timebaseDue x = false := by
    have hlast (u : State) : u.takeTerminal.takeRollover.timebaseDue x = u.timebaseDue x :=
      State.timebaseDue_congr (by simp) x
    rw [State.settle, hlast]
    cases x <;> simp [State.takeTimebaseEnd_timebaseDue]
  have hterminal : s.settle.demand.terminal = false := by
    simp only [State.settle, State.takeRollover_terminal, State.takeTerminal_terminal]
  have hrollover : s.settle.calendar.rolloverDue = false := State.takeRollover_rolloverDue _
  have ha := hperiods .a
  have hb := hperiods .b
  have hc := hperiods .c
  simp only [PerPhase.get_a, PerPhase.get_b, PerPhase.get_c] at ha hb hc
  simp [State.quiet, ha, hb, hc, hcapture, htimebase, hterminal, hrollover]

/-! ### A step acts on the settled state -/

theorem State.settle_settle (s : State) : s.settle.settle = s.settle :=
  s.settle.settle_of_quiet s.settle_quiet

/-- A guarded step takes nothing further where what is due at once has been taken. -/
theorem State.after_settle (s : State) (act : State → State) (h : s.resetApplied = false) :
    s.after act = s.settle.after act := by
  simp [State.after, h, State.settle_settle]

/-- Settles O5: every row that does not stand alone is guarded by `State.after`, and a settled state is quiet. -/
theorem whatIsDueAtOnceComesFirst : Obligations.WhatIsDueAtOnceComesFirst := by
  refine ⟨State.settle_quiet, fun c s happlied halone => ?_⟩
  cases c with
  | powerOnReset | powerOnResetEnds | qualityPeriodEnd | captureTerminalCount | timebaseEnd | terminalCount
  | minuteRollover => exact Bool.noConfusion halone
  | _ => exact congrArg Host.Outcome.next (s.after_settle _ happlied)

end Sys2Proof.Machine

/-! # The rows of the table by their kind, and a property that every operation keeps -/

namespace Sys2Proof

/-- What the owner of a command of the command table does with its parameters (R169); any other step is no command, and has
the answer of an unknown code. -/
def Instr.owner : Instr → List Byte → Machine.State → Machine.Reply
  | .readLanes => Machine.readLanes
  | .start => Machine.start
  | .stop => Machine.stop
  | .resume => Machine.resume
  | .engineReset => Machine.engineReset
  | .readWindow => Machine.readWindow
  | .readCounters => Machine.readCounters
  | .readBank => Machine.readBank
  | .snapshot => Machine.snapshot
  | .readSnapshot => Machine.readSnapshot
  | .preload => Machine.preload
  | .setTime => Machine.setTime
  | .readClock => Machine.readClock
  | .addSpecialDay => Machine.addSpecialDay
  | .removeSpecialDay => Machine.removeSpecialDay
  | .readSpecialDays => Machine.readSpecialDays
  | .readDemand => Machine.readDemand
  | .resetDemand => Machine.resetDemand
  | .readTable => Machine.readTable
  | .writeTable => Machine.writeTable
  | .applyTable => Machine.applyTable
  | .cancelApply => Machine.cancelApply
  | .readFlags => Machine.readFlags
  | .clearFlags => Machine.clearFlags
  | .setMask => Machine.setMask
  | .captureArm => Machine.captureArm
  | .captureTrigger => Machine.captureTrigger
  | .captureStop => Machine.captureStop
  | .readCaptureStatus => Machine.readCaptureStatus
  | .linkTestStart => Machine.linkTestStart
  | .linkTestStop => Machine.linkTestStop
  | .readLinkTest => Machine.readLinkTest
  | _ => fun _ s => s.refuse .badCommand

/-- The commands whose owner can change its state; the others only read. -/
def Instr.writes : Instr → Bool
  | .start | .stop | .resume | .engineReset | .snapshot | .preload | .setTime | .addSpecialDay | .removeSpecialDay
  | .resetDemand | .writeTable | .applyTable | .cancelApply | .clearFlags | .setMask | .captureArm | .captureTrigger
  | .captureStop | .linkTestStart | .linkTestStop => true
  | _ => false

end Sys2Proof

namespace Sys2Proof.Machine

/-! ### Commands -/

@[simp] theorem State.refuse_state (s : State) (status : Status) : (s.refuse status).state = s := rfl
@[simp] theorem State.okay_state (s : State) (data : List Byte) : (s.okay data).state = s := rfl

/-- The row of a command of fixed length executes its owner under its code (R157, R169). -/
theorem exec_of_fixedCommand {c : Instr} {code : Byte} {n : Nat} (h : c.fixedCommand = some (code, n)) (s : State) :
    exec c s = .next (s.execute code (lengthIs n) c.owner) := by
  cases c <;> cases h <;> rfl

theorem State.page_state (s : State) (data : Option (List Byte)) : (s.page data).state = s := by
  cases data <;> rfl

/-- A command that does not write leaves its owner's state as it is. -/
theorem owner_state_of_reads {c : Instr} (h : c.writes = false) (p : List Byte) (s : State) :
    (c.owner p s).state = s := by
  cases c with
  | start | stop | resume | engineReset | snapshot | preload | setTime | addSpecialDay | removeSpecialDay | resetDemand
  | writeTable | applyTable | cancelApply | clearFlags | setMask | captureArm | captureTrigger | captureStop
  | linkTestStart | linkTestStop => exact Bool.noConfusion h
  | readBank | readSnapshot => exact s.page_state _
  | readDemand =>
    simp only [Instr.owner, readDemand]
    split <;> rfl
  | readTable =>
    simp only [Instr.owner, readTable]
    split
    · rfl
    · split <;> rfl
  | readLinkTest =>
    simp only [Instr.owner, readLinkTest]
    split <;> rfl
  | _ => rfl

/-- No owner of a command touches the response queue (R157). -/
theorem owner_responses (c : Instr) (p : List Byte) (s : State) :
    (c.owner p s).state.link.responses = s.link.responses := by
  cases hwrites : c.writes with
  | false => rw [owner_state_of_reads hwrites]
  | true =>
    cases c with
    | start =>
      simp only [Instr.owner, start]
      split
      · rfl
      · split <;> simp [State.okay, State.refuse]
    | stop =>
      simp only [Instr.owner, stop]
      split <;> simp [State.okay, State.refuse]
    | resume =>
      simp only [Instr.owner, resume]
      split <;> simp [State.okay, State.refuse]
    | engineReset => simp [Instr.owner, engineReset, State.okay]
    | snapshot => rfl
    | preload =>
      simp only [Instr.owner, preload]
      repeat' split
      all_goals rfl
    | setTime =>
      simp only [Instr.owner, setTime]
      split <;> simp [State.refuse, State.loadTime]
    | addSpecialDay =>
      simp only [Instr.owner, addSpecialDay]
      repeat' split
      all_goals simp [State.refuse, State.okay, State.editDays]
    | removeSpecialDay =>
      simp only [Instr.owner, removeSpecialDay]
      split <;> simp [State.refuse, State.okay, State.editDays]
    | resetDemand =>
      simp only [Instr.owner, resetDemand, State.okay, State.restartOneShot]
      repeat' split
      all_goals simp
    | writeTable =>
      simp only [Instr.owner, writeTable, writeTrigger, writeStaged]
      repeat' split
      all_goals rfl
    | applyTable =>
      simp only [Instr.owner, applyTable, applyStaged, acceptApply]
      repeat' split
      all_goals simp [State.refuse]
    | cancelApply =>
      simp only [Instr.owner, cancelApply, cancelStaged]
      repeat' split
      all_goals rfl
    | clearFlags =>
      simp only [Instr.owner, clearFlags]
      split <;> rfl
    | setMask =>
      simp only [Instr.owner, setMask]
      split <;> rfl
    | captureArm =>
      simp only [Instr.owner, captureArm]
      repeat' split
      all_goals rfl
    | captureTrigger =>
      simp only [Instr.owner, captureTrigger]
      split <;> rfl
    | captureStop =>
      simp only [Instr.owner, captureStop]
      split <;> rfl
    | linkTestStart =>
      simp only [Instr.owner, linkTestStart]
      repeat' split
      all_goals simp [State.refuse, State.okay]
    | linkTestStop =>
      simp only [Instr.owner, linkTestStop]
      repeat' split
      all_goals simp [State.refuse, State.okay]
    | _ => exact Bool.noConfusion hwrites

/-! ### What every step keeps -/

/-- Every operation that a row of the table can take keeps the property. -/
structure Kept (P : State → Prop) : Prop where
  pending : ∀ s q, P s → P { s with pending := q }
  powerOnReset : ∀ s, P s → P s.powerOnReset
  resetEnds : ∀ s, P s → P { s with resetApplied := false }
  periodEnd : ∀ s x, P s → P (s.takePeriodEnd x)
  captureTerminal : ∀ s, P s → P s.takeCaptureTerminal
  timebaseEnd : ∀ s x, P s → P (s.takeTimebaseEnd x)
  terminal : ∀ s, P s → P s.takeTerminal
  rollover : ∀ s, P s → P s.takeRollover
  strobe : ∀ s, P s → P s.strobe
  receiveFrame : ∀ s x f, P s → P (s.receiveFrame x f)
  releaseIfDue : ∀ s, P s → P s.releaseIfDue
  takeReleased : ∀ s, P s → P s.takeReleased
  takeCompleted : ∀ s, P s → P s.takeCompleted
  takeRequest : ∀ s c, P s → P (s.takeRequest c)
  takeCredit : ∀ s, P s → P s.takeCredit
  takeNotice : ∀ s, P s → P s.takeNotice
  takeExpiry : ∀ s, P s → P s.takeExpiry
  downlinkFrame : ∀ s f, P s → P (s.downlinkFrame f)
  downlinkIdleLine : ∀ s, P s → P s.downlinkIdleLine
  choose : ∀ s, P s → P s.choose
  withCommands : ∀ s c rest, s.link.commands = c :: rest → P s → P (s.withCommands rest)
  respond : ∀ s code status data, s.link.responses.length < Config.responseDepth → P s → P (s.respond code status data)
  owner : ∀ (c : Instr) p s, c.writes = true → P s → P (c.owner p s).state

namespace Kept

variable {P : State → Prop} (h : Kept P)

include h

theorem settle {s : State} (hs : P s) : P s.settle :=
  h.rollover _ (h.terminal _ (h.timebaseEnd _ _ (h.timebaseEnd _ _ (h.timebaseEnd _ _ (h.captureTerminal _
    (h.periodEnd _ _ (h.periodEnd _ _ (h.periodEnd _ _ hs))))))))

theorem after {s : State} (hs : P s) {act : State → State} (hact : ∀ u, P u → P (act u)) : P (s.after act) := by
  unfold State.after
  split
  · exact hs
  · exact hact _ (h.settle hs)

omit h in
theorem unlessReset {s : State} (hs : P s) {act : State → State} (hact : ∀ u, P u → P (act u)) :
    P (s.unlessReset act) := by
  unfold State.unlessReset
  split
  · exact hs
  · exact hact _ hs

theorem owner' (c : Instr) (p : List Byte) {s : State} (hs : P s) : P (c.owner p s).state := by
  cases hwrites : c.writes with
  | false => rwa [owner_state_of_reads hwrites]
  | true => exact h.owner c p s hwrites hs

/-- A command that leaves its queue, is acted on and answered keeps the property. -/
theorem answerHead {s : State} (hs : P s) (c : Instr) {code : Byte} {params head : List Byte} {rest : List (List Byte)}
    (ok : List Byte → Bool) (hcommands : s.link.commands = head :: rest)
    (hroom : s.link.responses.length < Config.responseDepth) :
    P (s.answerHead rest code params ok c.owner) := by
  have hleft : P (s.withCommands rest) := h.withCommands s head rest hcommands hs
  cases hok : ok params with
  | false =>
    rw [s.answerHead_of_bad rest code params ok c.owner hok, ← s.respond_withCommands rest]
    exact h.respond _ _ _ _ hroom hleft
  | true =>
    rw [s.answerHead_of_ok rest code params ok c.owner hok]
    refine h.respond _ _ _ _ ?_ (h.owner' c params hleft)
    rw [owner_responses]
    exact hroom

theorem execute {s : State} (hs : P s) (c : Instr) (code : Byte) (ok : List Byte → Bool) :
    P (s.execute code ok c.owner) :=
  s.execute_keeps P code ok c.owner hs (h.settle hs) fun rest params hcommands hroom =>
    h.answerHead (h.settle hs) c ok (by simpa using hcommands) (by simpa using hroom)

theorem executeUnknown {s : State} (hs : P s) : P s.executeUnknown := by
  refine h.after hs fun u hu => ?_
  split
  · rename_i c params rest hcommands
    split
    · rename_i hroom
      exact h.answerHead hu .badCommand (fun _ => false) hcommands hroom.1
    · exact hu
  · exact hu

/-- A property that every operation keeps is kept by every row of the table. -/
theorem exec {s t : State} (hs : P s) (c : Instr) (hstep : Machine.exec c s = .next t) : P t := by
  cases c with
  | powerOnReset => cases hstep; exact h.powerOnReset s hs
  | powerOnResetEnds => cases hstep; exact h.resetEnds s hs
  | qualityPeriodEnd x => cases hstep; exact unlessReset hs fun u => h.periodEnd u x
  | captureTerminalCount => cases hstep; exact unlessReset hs h.captureTerminal
  | timebaseEnd x => cases hstep; exact unlessReset hs fun u => h.timebaseEnd u x
  | terminalCount => cases hstep; exact unlessReset hs h.terminal
  | minuteRollover => cases hstep; exact unlessReset hs h.rollover
  | strobe => cases hstep; exact h.after hs h.strobe
  | upDirectionFrame x f => cases hstep; exact h.after hs fun u => h.receiveFrame u x f
  | setRelease => cases hstep; exact h.after hs h.releaseIfDue
  | arithmeticStep => cases hstep; exact h.after hs h.takeReleased
  | setProcessing => cases hstep; exact h.after hs h.takeCompleted
  | forcedCloseRequest c => cases hstep; exact h.after hs fun u => h.takeRequest u c
  | demandCredit => cases hstep; exact h.after hs h.takeCredit
  | setTimeNotice => cases hstep; exact h.after hs h.takeNotice
  | watchdogExpiry => cases hstep; exact h.after hs h.takeExpiry
  | command f | pause f | resumeFlow f => cases hstep; exact h.after hs fun u => h.downlinkFrame u f
  | schedulerChoice => cases hstep; exact h.after hs h.choose
  | downlinkLineIdle => cases hstep; exact h.after hs h.downlinkIdleLine
  | badCommand => cases hstep; exact h.executeUnknown hs
  | writeTable => cases hstep; exact h.execute hs .writeTable _ _
  | _ =>
    rw [exec_of_fixedCommand rfl] at hstep
    cases hstep
    exact h.execute hs _ _ _

/-- A property that every operation keeps is kept by every step. -/
theorem step {s t : State} (hs : P s) (hstep : Machine.step s = .next t) : P t := by
  unfold Machine.step at hstep
  split at hstep
  · cases hstep
    exact hs
  · exact h.exec (h.pending s _ hs) _ hstep

end Kept

end Sys2Proof.Machine

/-! # The bounds of the queues -/

namespace Sys2Proof.Machine

/-- The law speaks of the lengths of four queues. -/
theorem State.QueueLaw.of_le {s t : State} (hs : s.QueueLaw)
    (hcommands : t.link.commands.length ≤ s.link.commands.length)
    (hresponses : t.link.responses.length ≤ s.link.responses.length)
    (hreports : t.link.reports.length ≤ s.link.reports.length)
    (hcapture : t.capture.queue.length ≤ s.capture.queue.length) : t.QueueLaw :=
  ⟨hcommands.trans hs.1, hresponses.trans hs.2.1, hreports.trans hs.2.2.1, hcapture.trans hs.2.2.2⟩

/-! ### The operations that make a queue longer -/

theorem State.respond_queueLaw {s : State} (hs : s.QueueLaw) (hroom : s.link.responses.length < Config.responseDepth)
    (code : Byte) (status : Status) (data : List Byte) : (s.respond code status data).QueueLaw := by
  obtain ⟨hcommands, -, hreports, hcapture⟩ := hs
  exact ⟨hcommands, by simpa [State.respond, Config.responseDepth] using hroom, hreports, hcapture⟩

/-- A full report queue drops its oldest report first (R78, R161). -/
theorem State.queueReport_queueLaw {s : State} (hs : s.QueueLaw) (r : Summary) : (s.queueReport r).QueueLaw := by
  obtain ⟨hcommands, hresponses, hreports, hcapture⟩ := hs
  refine ⟨by simpa using hcommands, by simpa using hresponses, ?_, by simpa using hcapture⟩
  unfold State.queueReport
  split
  · rename_i hroom
    simpa [Config.reportDepth] using hroom
  · simp only [State.raise_frame, List.length_append, List.length_drop, List.length_singleton]
    omega

/-- A full capture queue takes no further record (R174). -/
theorem State.forward_queueLaw {s : State} (hs : s.QueueLaw) (c : CompletedSet) : (s.forward c).QueueLaw := by
  obtain ⟨hcommands, hresponses, hreports, hcapture⟩ := hs
  refine ⟨by simpa using hcommands, by simpa using hresponses, by simpa using hreports, ?_⟩
  unfold State.forward
  split
  · rename_i hroom
    simpa [Config.captureDepth] using hroom
  · simpa using hcapture

theorem State.takeExpiry_queueLaw {s : State} (hs : s.QueueLaw) : s.takeExpiry.QueueLaw := by
  unfold State.takeExpiry
  split
  · unfold State.enterFailsafe
    dsimp only
    split
    · exact hs.of_le (by simp) (by simp) (by simp) (by simp)
    · exact hs
  · exact hs

/-- A command joins the queue only while it is not full (R155). -/
theorem State.acceptCommand_queueLaw {s : State} (hs : s.QueueLaw) (p : List Byte) : (s.acceptCommand p).QueueLaw := by
  unfold State.acceptCommand
  split
  · rename_i hroom
    obtain ⟨-, hresponses, hreports, hcapture⟩ := State.takeExpiry_queueLaw hs
    exact ⟨by simpa [State.queueCommand, Config.commandDepth] using hroom, by simpa using hresponses,
      by simpa using hreports, by simpa using hcapture⟩
  · exact hs.of_le (by simp) (by simp) (by simp) (by simp)

/-! ### The operations that lead to these -/

theorem State.captureRunning_queueLaw {s : State} (hs : s.QueueLaw) (c : CompletedSet) :
    (s.captureRunning c).QueueLaw := by
  have hcount {u : State} (hu : u.QueueLaw) : ({ u with capture := u.capture.count } : State).QueueLaw := by
    refine hu.of_le le_rfl le_rfl le_rfl ?_
    simp only [Capture.count]
    split <;> simp
  unfold State.captureRunning
  have hmarked : (if s.capture.sourceIndex = none
      then ({ s with capture := { s.capture with sourceIndex := some c.index } } : State) else s).QueueLaw := by
    split
    · exact hs
    · exact hs
  dsimp only
  refine hcount ?_
  generalize (if s.capture.sourceIndex = none
      then ({ s with capture := { s.capture with sourceIndex := some c.index } } : State) else s) = u at hmarked
  split
  · exact State.forward_queueLaw hmarked c
  · exact hmarked

theorem State.captureSet_queueLaw {s : State} (hs : s.QueueLaw) (c : CompletedSet) : (s.captureSet c).QueueLaw := by
  unfold State.captureSet
  split
  · exact hs
  · split
    · exact hs
    · exact State.captureRunning_queueLaw (s := { s with capture := { s.capture with
        state := .running, source := .entry _, sourceIndex := some c.index, decimationCount := 0 } }) hs c
  · exact State.captureRunning_queueLaw hs c

theorem State.closeStages_queueLaw {s : State} (hs : s.QueueLaw) (w : Window) (o : Opening) (cause : CloseCause) :
    (s.closeStages w o cause).QueueLaw := by
  simp only [State.closeStages]
  generalize s.engine.summarize w o cause = r
  have hcredited : ((({ s with engine := s.engine.record r } : State).reportEngine).creditBank r.q r.band
      ⟨r.aImp, r.aExp⟩ r.grossShares r.intervalEnd).QueueLaw :=
    hs.of_le (by simp) (by simp) (by simp) (by simp)
  split
  · exact State.queueReport_queueLaw hcredited r
  · exact hcredited

theorem State.closeWindow_queueLaw {s : State} (hs : s.QueueLaw) (w : Window) (o : Opening) (cause : CloseCause) :
    (s.closeWindow w o cause).QueueLaw := by
  have hclosed := State.closeStages_queueLaw hs w o cause
  unfold State.closeWindow
  dsimp only
  split
  · exact hclosed.of_le (by simp) (by simp) (by simp) (by simp)
  · exact hclosed

theorem State.processSet_queueLaw {s : State} (hs : s.QueueLaw) (c : CompletedSet) : (s.processSet c).QueueLaw := by
  have hinto (w : Window) (m : Meter) : (s.processInto w m c).QueueLaw := by
    unfold State.processInto
    dsimp only
    split
    · exact hs.of_le (by simp) (by simp) (by simp) (by simp)
    · split
      · exact State.closeWindow_queueLaw (hs.of_le (by simp) (by simp) (by simp) (by simp)) _ _ _
      · exact hs.of_le (by simp) (by simp) (by simp) (by simp)
  unfold State.processSet
  split
  · exact hinto _ _
  · exact hinto _ _
  · exact hs

theorem State.requestClose_queueLaw {s : State} (hs : s.QueueLaw) (cause : ForcedCause) :
    (s.requestClose cause).QueueLaw := by
  unfold State.requestClose
  split
  · exact hs
  · exact hs
  · split
    · exact State.closeWindow_queueLaw hs _ _ _
    · exact hs.of_le (by simp) (by simp) (by simp) (by simp)

theorem State.judgeDownlink_queueLaw {s : State} (hs : s.QueueLaw) (f : LineFrame) : (s.judgeDownlink f).QueueLaw := by
  unfold State.judgeDownlink
  split
  · exact hs.of_le (by simp) (by simp) (by simp) (by simp)
  · exact State.acceptCommand_queueLaw hs _
  · exact hs
  · exact hs

theorem State.stopMetering_queueLaw {s : State} (hs : s.QueueLaw) : s.stopMetering.QueueLaw := by
  have henter {u : State} (hu : u.QueueLaw) : u.enterConfig.QueueLaw :=
    hu.of_le (by simp) (by simp) (by simp) (by simp)
  have hinstalled {u : State} (hu : u.QueueLaw) (b : Band) : (u.installRequested b).evaluate.QueueLaw :=
    hu.of_le (by simp) (by simp) (by simp) (by simp)
  unfold State.stopMetering
  split
  · split
    · rename_i w _ _ o _
      exact (henter (State.closeWindow_queueLaw hs w o .stop)).of_le (by simp) (by simp) (by simp) (by simp)
    · exact hinstalled (henter hs) _
  · exact hinstalled (henter hs) _

/-- A frame leaves its queue at most. -/
theorem State.choose_queueLaw {s : State} (hs : s.QueueLaw) : s.choose.QueueLaw := by
  refine hs.of_le (by simp) ?_ ?_ ?_
  all_goals
    simp only [State.choose, State.serve, State.rotate, State.nothingEligible, State.sendNotice, State.sendResponse,
      State.sendReportFirst, State.sendReportSecond, State.sendCapture, State.beginFrame]
    repeat' split
  all_goals simp_all

/-- A command leaves the queues to the link, but for STOP, whose close reports, and ENGINE RESET, which empties two. -/
theorem owner_queueLaw (c : Instr) (p : List Byte) {s : State} (hwrites : c.writes = true) (hs : s.QueueLaw) :
    (c.owner p s).state.QueueLaw := by
  cases c with
  | stop =>
    simp only [Instr.owner, stop]
    split
    · exact hs
    · exact State.stopMetering_queueLaw hs
  | start =>
    simp only [Instr.owner, start]
    repeat' split
    all_goals simpa [State.QueueLaw] using hs
  | resume =>
    simp only [Instr.owner, resume]
    split <;> simpa [State.QueueLaw] using hs
  | engineReset =>
    refine hs.of_le (by simp [Instr.owner, engineReset]) (by simp [Instr.owner, engineReset]) ?_ ?_
    · simp [Instr.owner, engineReset, State.engineReset, State.resetMonitor, State.dropHandOvers, Link.reset]
    · simp [Instr.owner, engineReset, State.engineReset, State.resetMonitor, State.dropHandOvers, Capture.reset]
  | snapshot => exact hs
  | preload =>
    simp only [Instr.owner, preload]
    repeat' split
    all_goals exact hs
  | setTime =>
    simp only [Instr.owner, setTime, State.loadTime]
    split <;> simpa [State.QueueLaw] using hs
  | addSpecialDay =>
    simp only [Instr.owner, addSpecialDay, State.editDays]
    repeat' split
    all_goals simpa [State.QueueLaw] using hs
  | removeSpecialDay =>
    simp only [Instr.owner, removeSpecialDay, State.editDays]
    split <;> simpa [State.QueueLaw] using hs
  | resetDemand =>
    simp only [Instr.owner, resetDemand, State.okay_state, State.restartOneShot]
    repeat' split
    all_goals simpa [State.QueueLaw] using hs
  | writeTable =>
    simp only [Instr.owner, writeTable, writeTrigger, writeStaged]
    repeat' split
    all_goals exact hs
  | applyTable =>
    simp only [Instr.owner, applyTable, applyStaged, acceptApply]
    repeat' split
    all_goals simpa [State.QueueLaw] using hs
  | cancelApply =>
    simp only [Instr.owner, cancelApply, cancelStaged]
    repeat' split
    all_goals exact hs
  | clearFlags =>
    simp only [Instr.owner, clearFlags]
    split <;> exact hs
  | setMask =>
    simp only [Instr.owner, setMask]
    split <;> exact hs
  | captureArm =>
    simp only [Instr.owner, captureArm]
    repeat' split
    all_goals exact hs
  | captureTrigger =>
    simp only [Instr.owner, captureTrigger]
    split <;> exact hs
  | captureStop =>
    simp only [Instr.owner, captureStop]
    split <;> exact hs
  | linkTestStart =>
    simp only [Instr.owner, linkTestStart]
    repeat' split
    all_goals simpa [State.QueueLaw] using hs
  | linkTestStop =>
    simp only [Instr.owner, linkTestStop]
    repeat' split
    all_goals simpa [State.QueueLaw] using hs
  | _ => exact Bool.noConfusion hwrites

/-- Every operation keeps the bounds: the four that make a queue longer look at its length first. -/
theorem State.QueueLaw.kept : Kept State.QueueLaw where
  pending _ _ hs := hs
  powerOnReset _ _ := ⟨Nat.zero_le _, Nat.zero_le _, Nat.zero_le _, Nat.zero_le _⟩
  resetEnds _ hs := hs
  periodEnd _ _ hs := by simpa [State.QueueLaw] using hs
  captureTerminal s hs := by
    refine hs.of_le (by simp) (by simp) (by simp) ?_
    unfold State.takeCaptureTerminal Capture.terminal
    repeat' split
    all_goals exact le_rfl
  timebaseEnd _ _ hs := by simpa [State.QueueLaw] using hs
  terminal _ hs := by simpa [State.QueueLaw] using hs
  rollover _ hs := by simpa [State.QueueLaw] using hs
  strobe s hs := by
    have hexpiry := State.takeExpiry_queueLaw hs
    simpa [State.strobe, State.QueueLaw] using hexpiry
  receiveFrame _ _ _ hs := by simpa [State.QueueLaw] using hs
  releaseIfDue _ hs := by simpa [State.QueueLaw] using hs
  takeReleased s hs := by
    unfold State.takeReleased
    split
    · exact hs
    · refine State.captureSet_queueLaw ?_ _
      exact hs
  takeCompleted s hs := by
    unfold State.takeCompleted
    split
    · exact hs
    · exact State.processSet_queueLaw (by simpa [State.QueueLaw] using hs) _
  takeRequest s c hs := by
    unfold State.takeRequest
    split
    · refine State.requestClose_queueLaw ?_ c
      exact hs
    · exact hs
  takeCredit _ hs := by simpa [State.QueueLaw] using hs
  takeNotice _ hs := by simpa [State.QueueLaw] using hs
  takeExpiry _ hs := State.takeExpiry_queueLaw hs
  downlinkFrame s f hs := by
    unfold State.downlinkFrame
    split
    · exact hs
    · exact State.judgeDownlink_queueLaw hs f
    · exact State.judgeDownlink_queueLaw hs _
  downlinkIdleLine s hs := by
    unfold State.downlinkIdleLine
    split
    · exact hs
    · exact hs
    · exact State.judgeDownlink_queueLaw hs _
  choose _ hs := State.choose_queueLaw hs
  withCommands s c rest hcommands hs := by
    refine hs.of_le ?_ le_rfl le_rfl le_rfl
    simp [State.withCommands, hcommands]
  respond _ _ _ _ hroom hs := State.respond_queueLaw hs hroom _ _ _
  owner c p _ hwrites hs := owner_queueLaw c p hwrites hs

/-- Settles O7: the bounds are kept by every operation, so by every step. -/
theorem everyStepKeepsTheQueueBounds : Obligations.EveryStepKeepsTheQueueBounds :=
  fun _ _ => State.QueueLaw.kept.step

end Sys2Proof.Machine

/-! # The law of the special-day list (R105) -/

namespace Sys2Proof.Machine

/-! ### The list pruned, and a clock that goes on or is loaded (R99, R101, R109) -/

/-- An ordered list without its leading days before `day` holds none before it. -/
theorem le_of_mem_dropWhile {l : List SpecialDay} (horder : l.Pairwise (fun d e => d.day < e.day)) (day : Nat) :
    ∀ e ∈ l.dropWhile (fun d => decide (d.day < day)), day ≤ e.day := by
  induction l with
  | nil => simp
  | cons d l ih =>
    obtain ⟨hfirst, hrest⟩ := List.pairwise_cons.mp horder
    by_cases hpast : d.day < day
    · simpa [List.dropWhile, hpast] using ih hrest
    · have hafter : ∀ e ∈ l, day ≤ e.day := fun e he => by have := hfirst e he; omega
      simpa [List.dropWhile, hpast] using ⟨not_lt.mp hpast, hafter⟩

/-- The law of the list for a calendar. -/
def Calendar.DayLaw (c : Calendar) : Prop :=
  c.specialDays.length ≤ 16 ∧ c.specialDays.Pairwise (fun d e => d.day < e.day)
    ∧ (c.clockSet = true → ∀ d ∈ c.specialDays, c.day ≤ d.day)

theorem State.specialDayLaw_iff (s : State) : s.SpecialDayLaw ↔ s.calendar.DayLaw := Iff.rfl

/-- A pruned list keeps to the law, whatever the day has become. -/
theorem Calendar.prune_dayLaw {c : Calendar} (hlength : c.specialDays.length ≤ 16)
    (horder : c.specialDays.Pairwise (fun d e => d.day < e.day)) : c.prune.DayLaw := by
  have hpart : List.Sublist c.prune.specialDays c.specialDays := List.dropWhile_sublist _
  exact ⟨hpart.length_le.trans hlength, horder.sublist hpart, fun _ => le_of_mem_dropWhile horder c.day⟩

theorem Calendar.advance_dayLaw {c : Calendar} (hc : c.DayLaw) : c.advance.DayLaw := by
  obtain ⟨hlength, horder, hpast⟩ := hc
  unfold Calendar.advance
  split
  · dsimp only
    split
    · exact Calendar.prune_dayLaw hlength horder
    · rename_i hunset
      exact ⟨hlength, horder, fun hset => absurd hset hunset⟩
  · exact ⟨hlength, horder, hpast⟩

theorem Calendar.load_dayLaw {c : Calendar} (hc : c.DayLaw) (day minute strobeCount : Nat) :
    (c.load day minute strobeCount).DayLaw :=
  Calendar.prune_dayLaw hc.1 hc.2.1

/-! ### The edits of the list (R106, R107) -/

theorem insertDay_length (d : SpecialDay) (l : List SpecialDay) : (insertDay d l).length = l.length + 1 := by
  induction l with
  | nil => rfl
  | cons e l ih =>
    by_cases hplace : d.day < e.day
    · simp [insertDay, hplace]
    · simp [insertDay, hplace, ih]

theorem Calendar.replaceDay_dayLaw {c : Calendar} (hc : c.DayLaw) {d : SpecialDay}
    (hlisted : ∃ e ∈ c.specialDays, e.day = d.day) (hday : c.clockSet = true → c.day ≤ d.day) :
    ({ c with specialDays := replaceDay d c.specialDays } : Calendar).DayLaw := by
  obtain ⟨hlength, horder, hpast⟩ := hc
  refine ⟨by simpa [replaceDay] using hlength, pairwise_replaceDay d _ horder, fun hset e he => ?_⟩
  rcases (mem_replaceDay d e _ hlisted).mp he with rfl | ⟨he, -⟩
  · exact hday hset
  · exact hpast hset e he

theorem Calendar.insertDay_dayLaw {c : Calendar} (hc : c.DayLaw) {d : SpecialDay}
    (hnew : ∀ e ∈ c.specialDays, e.day ≠ d.day) (hroom : c.specialDays.length < 16)
    (hday : c.clockSet = true → c.day ≤ d.day) :
    ({ c with specialDays := insertDay d c.specialDays } : Calendar).DayLaw := by
  obtain ⟨-, horder, hpast⟩ := hc
  refine ⟨(insertDay_length d _).trans_le hroom, pairwise_insertDay d _ horder hnew, fun hset e he => ?_⟩
  rcases (mem_insertDay d e _).mp he with rfl | he
  · exact hday hset
  · exact hpast hset e he

theorem Calendar.filter_dayLaw {c : Calendar} (hc : c.DayLaw) (keep : SpecialDay → Bool) :
    ({ c with specialDays := c.specialDays.filter keep } : Calendar).DayLaw := by
  obtain ⟨hlength, horder, hpast⟩ := hc
  exact ⟨(List.length_filter_le _ _).trans hlength, horder.filter _,
    fun hset e he => hpast hset e (List.mem_of_mem_filter he)⟩

theorem State.editDays_specialDayLaw (s : State) (l : List SpecialDay) :
    (s.editDays l).SpecialDayLaw ↔ ({ s.calendar with specialDays := l } : Calendar).DayLaw := by
  simp [State.editDays, State.SpecialDayLaw, Calendar.DayLaw]

theorem addSpecialDay_specialDayLaw (p : List Byte) {s : State} (hs : s.SpecialDayLaw) :
    (addSpecialDay p s).state.SpecialDayLaw := by
  by_cases hprofile : 7 < beNat (p.drop 2)
  · rwa [show addSpecialDay p s = s.refuse .refusedRange from if_pos hprofile]
  by_cases hpast : s.calendar.clockSet = true ∧ beNat (p.take 2) < s.calendar.day
  · rwa [show addSpecialDay p s = s.refuse .refusedRange from (if_neg hprofile).trans (if_pos hpast)]
  have hday : s.calendar.clockSet = true → s.calendar.day ≤ beNat (p.take 2) :=
    fun hset => not_lt.mp fun hlt => hpast ⟨hset, hlt⟩
  rw [addSpecialDay_in_range s (not_lt.mp hprofile) hday]
  split
  · rename_i hlisted
    exact (s.editDays_specialDayLaw _).mpr (Calendar.replaceDay_dayLaw hs ((isListed_iff _ _).mp hlisted) hday)
  · rename_i hunlisted
    split
    · exact hs
    · rename_i hroom
      exact (s.editDays_specialDayLaw _).mpr
        (Calendar.insertDay_dayLaw hs ((not_isListed_iff _ _).mp hunlisted) (not_le.mp hroom) hday)

/-! ### The operations -/

/-- A command leaves the list, but for the two edits and SET TIME. -/
theorem owner_specialDayLaw (c : Instr) (p : List Byte) {s : State} (hwrites : c.writes = true)
    (hs : s.SpecialDayLaw) : (c.owner p s).state.SpecialDayLaw := by
  cases c with
  | start =>
    simp only [Instr.owner, start]
    repeat' split
    all_goals simpa [State.SpecialDayLaw] using hs
  | stop =>
    simp only [Instr.owner, stop]
    split <;> simpa [State.SpecialDayLaw] using hs
  | resume =>
    simp only [Instr.owner, resume]
    split <;> simpa [State.SpecialDayLaw] using hs
  | engineReset => simpa [Instr.owner, engineReset, State.SpecialDayLaw] using hs
  | snapshot => exact hs
  | preload =>
    simp only [Instr.owner, preload]
    repeat' split
    all_goals exact hs
  | setTime =>
    simp only [Instr.owner, setTime]
    split
    · exact hs
    · simpa [State.loadTime, State.SpecialDayLaw, Calendar.DayLaw] using Calendar.load_dayLaw hs _ _ _
  | addSpecialDay => exact addSpecialDay_specialDayLaw p hs
  | removeSpecialDay =>
    simp only [Instr.owner, removeSpecialDay]
    split
    · exact (s.editDays_specialDayLaw _).mpr (Calendar.filter_dayLaw hs _)
    · exact hs
  | resetDemand =>
    simp only [Instr.owner, resetDemand, State.okay_state, State.restartOneShot]
    repeat' split
    all_goals simpa [State.SpecialDayLaw] using hs
  | writeTable =>
    simp only [Instr.owner, writeTable, writeTrigger, writeStaged]
    repeat' split
    all_goals exact hs
  | applyTable =>
    simp only [Instr.owner, applyTable, applyStaged, acceptApply]
    repeat' split
    all_goals simpa [State.SpecialDayLaw] using hs
  | cancelApply =>
    simp only [Instr.owner, cancelApply, cancelStaged]
    repeat' split
    all_goals exact hs
  | clearFlags =>
    simp only [Instr.owner, clearFlags]
    split <;> exact hs
  | setMask =>
    simp only [Instr.owner, setMask]
    split <;> exact hs
  | captureArm =>
    simp only [Instr.owner, captureArm]
    repeat' split
    all_goals exact hs
  | captureTrigger =>
    simp only [Instr.owner, captureTrigger]
    split <;> exact hs
  | captureStop =>
    simp only [Instr.owner, captureStop]
    split <;> exact hs
  | linkTestStart =>
    simp only [Instr.owner, linkTestStart]
    repeat' split
    all_goals simpa [State.SpecialDayLaw] using hs
  | linkTestStop =>
    simp only [Instr.owner, linkTestStop]
    repeat' split
    all_goals simpa [State.SpecialDayLaw] using hs
  | _ => exact Bool.noConfusion hwrites

/-- Every operation keeps the law: the list is edited in day order and pruned where the day moves. -/
theorem State.SpecialDayLaw.kept : Kept State.SpecialDayLaw where
  pending _ _ hs := hs
  powerOnReset _ _ := ⟨Nat.zero_le _, List.Pairwise.nil, fun hset => Bool.noConfusion hset⟩
  resetEnds _ hs := hs
  periodEnd _ _ hs := by simpa [State.SpecialDayLaw] using hs
  captureTerminal _ hs := by simpa [State.SpecialDayLaw] using hs
  timebaseEnd _ _ hs := by simpa [State.SpecialDayLaw] using hs
  terminal _ hs := by simpa [State.SpecialDayLaw] using hs
  rollover s hs := by
    unfold State.takeRollover
    split
    · simpa [State.rollover, State.SpecialDayLaw, Calendar.DayLaw] using Calendar.advance_dayLaw hs
    · exact hs
  strobe _ hs := by simpa [State.strobe, State.SpecialDayLaw] using hs
  receiveFrame _ _ _ hs := by simpa [State.SpecialDayLaw] using hs
  releaseIfDue _ hs := by simpa [State.SpecialDayLaw] using hs
  takeReleased _ hs := by simpa [State.SpecialDayLaw] using hs
  takeCompleted _ hs := by simpa [State.SpecialDayLaw] using hs
  takeRequest _ _ hs := by simpa [State.SpecialDayLaw] using hs
  takeCredit _ hs := by simpa [State.SpecialDayLaw] using hs
  takeNotice _ hs := by simpa [State.SpecialDayLaw] using hs
  takeExpiry _ hs := by simpa [State.SpecialDayLaw] using hs
  downlinkFrame _ _ hs := by simpa [State.SpecialDayLaw] using hs
  downlinkIdleLine _ hs := by simpa [State.SpecialDayLaw] using hs
  choose _ hs := by simpa [State.SpecialDayLaw] using hs
  withCommands _ _ _ _ hs := hs
  respond _ _ _ _ _ hs := hs
  owner c p _ hwrites hs := owner_specialDayLaw c p hwrites hs

/-- Settles O8: the law is kept by every operation, so by every step. -/
theorem everyStepKeepsTheSpecialDayLaw : Obligations.EveryStepKeepsTheSpecialDayLaw :=
  fun _ _ => State.SpecialDayLaw.kept.step

end Sys2Proof.Machine

/-! # The fault monitor's law (R141, R144) -/

namespace Sys2Proof.Machine

/-! ### The live conditions, index by index -/

theorem Flag.getLsbD_bitIf (f : Flag) (b : Bool) (k : Nat) : (f.bitIf b).getLsbD k = (b && decide (k = f.index)) := by
  cases b <;> simp [Flag.bitIf, Flag.getLsbD_bit, -BitVec.getLsbD_eq_getElem]

theorem State.phaseConditions_getLsbD (s : State) (x : Phase) (k : Nat) :
    (s.phaseConditions x).getLsbD k =
      ((s.lanes.get x).state.isLost && decide (k = (Flag.laneLost x).index)
        || (s.lanes.get x).state.isSuspect && decide (k = (Flag.laneSuspect x).index)
        || (s.lanes.get x).voltage.stuck && decide (k = (Flag.vStuck x).index)
        || (s.lanes.get x).current.stuck && decide (k = (Flag.iStuck x).index)
        || s.engine.lowVoltage.get x && decide (k = (Flag.lowVoltage x).index)) := by
  simp only [State.phaseConditions, BitVec.getLsbD_or, Flag.getLsbD_bitIf]

theorem State.liveConditions_getLsbD (s : State) (k : Nat) :
    s.liveConditions.getLsbD k =
      ((s.phaseConditions .a).getLsbD k || (s.phaseConditions .b).getLsbD k || (s.phaseConditions .c).getLsbD k
        || s.engine.unmetered && decide (k = Flag.unmetered.index)
        || s.aligner.estimating && decide (k = Flag.estimating.index)
        || s.engine.exportState.warns && decide (k = Flag.exportWarn.index)
        || s.engine.exportState.trips && decide (k = Flag.exportTrip.index)
        || s.engine.state.isFailsafe && decide (k = Flag.failsafe.index)
        || !s.calendar.clockSet && decide (k = Flag.clockNotSet.index)) := by
  simp only [State.liveConditions, BitVec.getLsbD_or, Flag.getLsbD_bitIf]

theorem State.liveConditions_laneLost (s : State) (x : Phase) :
    FlagSet.names s.liveConditions (.laneLost x) = (s.lanes.get x).state.isLost := by
  cases x <;> simp [State.liveConditions, State.phaseConditions, Flag.index, phaseNumber]

theorem State.liveConditions_laneSuspect (s : State) (x : Phase) :
    FlagSet.names s.liveConditions (.laneSuspect x) = (s.lanes.get x).state.isSuspect := by
  cases x <;> simp [State.liveConditions, State.phaseConditions, Flag.index, phaseNumber]

theorem State.liveConditions_vStuck (s : State) (x : Phase) :
    FlagSet.names s.liveConditions (.vStuck x) = (s.lanes.get x).voltage.stuck := by
  cases x <;> simp [State.liveConditions, State.phaseConditions, Flag.index, phaseNumber]

theorem State.liveConditions_iStuck (s : State) (x : Phase) :
    FlagSet.names s.liveConditions (.iStuck x) = (s.lanes.get x).current.stuck := by
  cases x <;> simp [State.liveConditions, State.phaseConditions, Flag.index, phaseNumber]

theorem State.liveConditions_estimating (s : State) :
    FlagSet.names s.liveConditions .estimating = s.aligner.estimating := by
  simp [State.liveConditions, State.phaseConditions, Flag.index, phaseNumber]

theorem State.liveConditions_failsafe (s : State) :
    FlagSet.names s.liveConditions .failsafe = s.engine.state.isFailsafe := by
  simp [State.liveConditions, State.phaseConditions, Flag.index, phaseNumber]

theorem State.liveConditions_clockNotSet (s : State) :
    FlagSet.names s.liveConditions .clockNotSet = !s.calendar.clockSet := by
  simp [State.liveConditions, State.phaseConditions, Flag.index, phaseNumber]

/-! ### The law but for conditions that are still to be reported -/

/-- The law of the monitor, where the conditions of `fs` may differ from their owners' until they are reported. -/
def State.MonitorLawBut (s : State) (fs : List Flag) : Prop :=
  (∀ k, (∀ f ∈ fs, k ≠ f.index) → s.monitor.conditions.getLsbD k = s.liveConditions.getLsbD k)
    ∧ (∀ k, s.monitor.conditions.getLsbD k = true → s.monitor.latched.getLsbD k = true)
    ∧ s.monitor.alert = decide (s.monitor.latched &&& ~~~s.monitor.mask ≠ 0#48)

/-- One flag set is within another, read off index by index. -/
theorem FlagSet.and_not_eq_zero_iff (s t : FlagSet) :
    s &&& ~~~t = 0#48 ↔ ∀ k, s.getLsbD k = true → t.getLsbD k = true := by
  rw [← not_iff_not, ← ne_eq, FlagSet.ne_zero_iff]
  push Not
  refine exists_congr fun k => ?_
  have hwidth : s.getLsbD k = true → k < 48 := BitVec.lt_of_getLsbD
  rw [BitVec.getLsbD_and, BitVec.getLsbD_not]
  by_cases hk : k < 48
  · simp [hk, -BitVec.getLsbD_eq_getElem]
  · simp [hk, mt hwidth hk, -BitVec.getLsbD_eq_getElem]

theorem State.monitorLaw_iff (s : State) : s.MonitorLaw ↔ s.MonitorLawBut [] := by
  unfold State.MonitorLaw State.MonitorLawBut
  rw [FlagSet.and_not_eq_zero_iff]
  refine and_congr_left fun _ => ⟨fun h k _ => by rw [h], fun h => BitVec.eq_of_getLsbD_eq fun k _ => h k (by simp)⟩

/-- The conditions of the owners that a change of the state may touch. -/
def State.SameConditionsBut (s t : State) (fs : List Flag) : Prop :=
  ∀ k, (∀ f ∈ fs, k ≠ f.index) → s.liveConditions.getLsbD k = t.liveConditions.getLsbD k

theorem State.MonitorLaw.but {s t : State} {fs : List Flag} (hs : s.MonitorLaw)
    (hconditions : t.monitor.conditions = s.monitor.conditions) (hlatched : t.monitor.latched = s.monitor.latched)
    (hmask : t.monitor.mask = s.monitor.mask) (halert : t.monitor.alert = s.monitor.alert)
    (hlive : s.SameConditionsBut t fs) : t.MonitorLawBut fs := by
  obtain ⟨htrue, hlatch, hsummary⟩ := s.monitorLaw_iff.mp hs
  refine ⟨fun k hk => ?_, by rwa [hconditions, hlatched], by rwa [hlatched, hmask, halert]⟩
  rw [hconditions, htrue k (by simp), hlive k hk]

/-! ### Raises and reports -/

theorem Monitor.setCondition_getLsbD (m : Monitor) (f : Flag) (v : Bool) (k : Nat) :
    (m.setCondition f v).conditions.getLsbD k = if k = f.index then v else m.conditions.getLsbD k := by
  have hf := f.index_lt
  by_cases hk : k = f.index
  · cases v <;> simp [Monitor.setCondition, f.getLsbD_bit, hk, hf, -BitVec.getLsbD_eq_getElem]
  · have hwidth : m.conditions.getLsbD k = true → k < 48 := BitVec.lt_of_getLsbD
    cases v <;> simp [Monitor.setCondition, f.getLsbD_bit, hk, -BitVec.getLsbD_eq_getElem]
    exact hwidth

theorem State.raise_monitorLawBut {s : State} {fs : List Flag} (hs : s.MonitorLawBut fs) (f : Flag) :
    (s.raise f).MonitorLawBut fs := by
  obtain ⟨htrue, hlatch, -⟩ := hs
  refine ⟨fun k hk => ?_, fun k hk => ?_, rfl⟩
  · have hlive : (s.raise f).liveConditions = s.liveConditions := by
      simp [State.liveConditions, State.phaseConditions]
    rw [hlive]
    exact htrue k hk
  · have hlatched : (s.raise f).monitor.latched = s.monitor.latched ||| f.bit := rfl
    rw [hlatched, BitVec.getLsbD_or, hlatch k hk, Bool.true_or]

theorem State.raiseIf_monitorLawBut {s : State} {fs : List Flag} (hs : s.MonitorLawBut fs) (b : Bool) (f : Flag) :
    (s.raiseIf b f).MonitorLawBut fs := by
  cases b
  · exact hs
  · exact State.raise_monitorLawBut hs f

theorem State.report_conditions (s : State) (f : Flag) (v : Bool) :
    (s.report f v).monitor.conditions = (s.monitor.setCondition f v).conditions := by
  unfold State.report State.raiseIf
  split <;> rfl

theorem State.report_latched (s : State) (f : Flag) (v : Bool) :
    (s.report f v).monitor.latched =
      if v && !FlagSet.names s.monitor.conditions f then s.monitor.latched ||| f.bit else s.monitor.latched := by
  unfold State.report State.raiseIf
  split <;> rfl

theorem State.report_liveConditions (s : State) (f : Flag) (v : Bool) :
    (s.report f v).liveConditions = s.liveConditions := by
  simp [State.liveConditions, State.phaseConditions]

theorem State.report_alert {s : State} {f : Flag} {v : Bool}
    (hs : s.monitor.alert = decide (s.monitor.latched &&& ~~~s.monitor.mask ≠ 0#48)) :
    (s.report f v).monitor.alert =
      decide ((s.report f v).monitor.latched &&& ~~~(s.report f v).monitor.mask ≠ 0#48) := by
  unfold State.report State.raiseIf
  split
  · rfl
  · exact hs

/-- The report of a condition as its owner has it makes that condition agree. -/
theorem State.report_monitorLawBut {s : State} {fs : List Flag} {f : Flag} {v : Bool} (hs : s.MonitorLawBut (f :: fs))
    (hv : FlagSet.names s.liveConditions f = v) : (s.report f v).MonitorLawBut fs := by
  obtain ⟨htrue, hlatch, halert⟩ := hs
  refine ⟨fun k hk => ?_, fun k => ?_, State.report_alert halert⟩
  · rw [State.report_conditions, State.report_liveConditions, Monitor.setCondition_getLsbD]
    split
    · rename_i hkf
      rw [hkf, ← hv, FlagSet.names]
    · rename_i hkf
      exact htrue k (List.forall_mem_cons.mpr ⟨hkf, hk⟩)
  · rw [State.report_conditions, State.report_latched, Monitor.setCondition_getLsbD]
    by_cases hkf : k = f.index
    · have hold : FlagSet.names s.monitor.conditions f = true → s.monitor.latched.getLsbD k = true :=
        fun h => hlatch k (hkf ▸ h)
      cases hnames : FlagSet.names s.monitor.conditions f
      · cases v <;> simp [hkf, Flag.getLsbD_bit, -BitVec.getLsbD_eq_getElem]
      · simp [hold hnames]
    · rw [if_neg hkf]
      intro hcondition
      split <;> simp [hlatch k hcondition, -BitVec.getLsbD_eq_getElem]

/-! ### The reports of a lane and of the engine -/

/-- The conditions that a lane owns (R18). -/
def laneFlags (x : Phase) : List Flag := [.laneLost x, .laneSuspect x, .vStuck x, .iStuck x]

/-- The conditions that the netting engine owns (R62, R74, R76, R151). -/
def engineFlags : List Flag :=
  [.lowVoltage .a, .lowVoltage .b, .lowVoltage .c, .exportWarn, .exportTrip, .unmetered, .failsafe]

theorem State.reportLane_monitorLaw {s : State} {x : Phase} {fs : List Flag} (hs : s.MonitorLawBut (laneFlags x ++ fs)) :
    (s.reportLane x).MonitorLawBut fs := by
  refine State.report_monitorLawBut (State.report_monitorLawBut (State.report_monitorLawBut (State.report_monitorLawBut hs
    (s.liveConditions_laneLost x)) ?_) ?_) ?_
  · rw [State.report_liveConditions, State.liveConditions_laneSuspect]
  · rw [State.report_liveConditions, State.report_liveConditions, State.liveConditions_vStuck]
  · rw [State.report_liveConditions, State.report_liveConditions, State.report_liveConditions,
      State.liveConditions_iStuck]

theorem State.reportEngine_monitorLaw {s : State} {fs : List Flag} (hs : s.MonitorLawBut (engineFlags ++ fs)) :
    s.reportEngine.MonitorLawBut fs := by
  refine State.report_monitorLawBut (State.report_monitorLawBut (State.report_monitorLawBut (State.report_monitorLawBut
    (State.report_monitorLawBut (State.report_monitorLawBut (State.report_monitorLawBut hs
    (s.liveConditions_lowVoltage .a)) ?_) ?_) ?_) ?_) ?_) ?_
  all_goals simp only [State.report_liveConditions, State.liveConditions_lowVoltage, State.liveConditions_exportWarn,
    State.liveConditions_exportTrip, State.liveConditions_unmetered, State.liveConditions_failsafe, PerPhase.get_b,
    PerPhase.get_c]

/-- A change of lane x touches the conditions of that lane. -/
theorem State.sameConditionsBut_of_lane {s t : State} {x : Phase} (hlanes : ∀ y, y ≠ x → t.lanes.get y = s.lanes.get y)
    (hengine : t.engine = s.engine) (hestimating : t.aligner.estimating = s.aligner.estimating)
    (hclock : t.calendar.clockSet = s.calendar.clockSet) : s.SameConditionsBut t (laneFlags x) := by
  intro k hk
  simp only [laneFlags, List.forall_mem_cons] at hk
  obtain ⟨hlost, hsuspect, hv, hi, -⟩ := hk
  have hphase (y : Phase) : (s.phaseConditions y).getLsbD k = (t.phaseConditions y).getLsbD k := by
    rw [State.phaseConditions_getLsbD, State.phaseConditions_getLsbD, hengine]
    by_cases hy : y = x
    · subst hy
      simp [hlost, hsuspect, hv, hi]
    · rw [hlanes y hy]
  rw [State.liveConditions_getLsbD, State.liveConditions_getLsbD, hphase, hphase, hphase, hengine, hestimating, hclock]

/-- A change of the engine touches the conditions of the engine. -/
theorem State.sameConditionsBut_of_engine {s t : State} (hlanes : t.lanes = s.lanes)
    (hestimating : t.aligner.estimating = s.aligner.estimating)
    (hclock : t.calendar.clockSet = s.calendar.clockSet) : s.SameConditionsBut t engineFlags := by
  intro k hk
  simp only [engineFlags, List.forall_mem_cons] at hk
  obtain ⟨hlowA, hlowB, hlowC, hwarn, htrip, hunmetered, hfailsafe, -⟩ := hk
  have hlow (y : Phase) : k ≠ (Flag.lowVoltage y).index := by cases y <;> assumption
  have hphase (y : Phase) : (s.phaseConditions y).getLsbD k = (t.phaseConditions y).getLsbD k := by
    simp [State.phaseConditions_getLsbD, hlanes, hlow y]
  rw [State.liveConditions_getLsbD, State.liveConditions_getLsbD, hphase, hphase, hphase, hestimating, hclock]
  simp [hwarn, htrip, hunmetered, hfailsafe]

/-- A change that touches no owner's condition and no flag keeps the law. -/
theorem State.MonitorLaw.congr {s t : State} (hs : s.MonitorLaw)
    (hmonitor : (t.monitor.conditions, t.monitor.latched, t.monitor.mask, t.monitor.alert)
      = (s.monitor.conditions, s.monitor.latched, s.monitor.mask, s.monitor.alert))
    (hlive : t.liveConditions = s.liveConditions) : t.MonitorLaw := by
  simp only [Prod.mk.injEq] at hmonitor
  obtain ⟨hconditions, hlatched, hmask, halert⟩ := hmonitor
  unfold State.MonitorLaw
  rw [hconditions, hlatched, hmask, halert, hlive]
  exact hs

theorem State.raise_monitorLaw {s : State} (hs : s.MonitorLaw) (f : Flag) : (s.raise f).MonitorLaw :=
  (State.monitorLaw_iff _).mpr (State.raise_monitorLawBut (s.monitorLaw_iff.mp hs) f)

theorem State.raiseIf_monitorLaw {s : State} (hs : s.MonitorLaw) (b : Bool) (f : Flag) :
    (s.raiseIf b f).MonitorLaw :=
  (State.monitorLaw_iff _).mpr (State.raiseIf_monitorLawBut (s.monitorLaw_iff.mp hs) b f)

/-- A lane that has changed and is reported. -/
theorem State.changeLane_monitorLaw {s : State} (hs : s.MonitorLaw) (x : Phase) (l : Lane) :
    (s.changeLane x l).MonitorLaw := by
  refine (State.monitorLaw_iff _).mpr (State.reportLane_monitorLaw (fs := []) ?_)
  rw [List.append_nil]
  refine hs.but rfl rfl rfl rfl (State.sameConditionsBut_of_lane (fun y hy => ?_) rfl ?_ rfl)
  · simp [PerPhase.get_set, hy]
  · simp only
    split <;> rfl

/-- An engine that has changed, with whatever owns no condition, and is reported. -/
theorem State.reportEngine_of_monitorLaw {s t : State} (hs : s.MonitorLaw)
    (hmonitor : (t.monitor.conditions, t.monitor.latched, t.monitor.mask, t.monitor.alert)
      = (s.monitor.conditions, s.monitor.latched, s.monitor.mask, s.monitor.alert))
    (hlanes : t.lanes = s.lanes) (hestimating : t.aligner.estimating = s.aligner.estimating)
    (hclock : t.calendar.clockSet = s.calendar.clockSet) : t.reportEngine.MonitorLaw := by
  simp only [Prod.mk.injEq] at hmonitor
  obtain ⟨hconditions, hlatched, hmask, halert⟩ := hmonitor
  refine (State.monitorLaw_iff _).mpr (State.reportEngine_monitorLaw (fs := []) ?_)
  rw [List.append_nil]
  exact hs.but hconditions hlatched hmask halert (State.sameConditionsBut_of_engine hlanes hestimating hclock)

end Sys2Proof.Machine

/-! # Every operation keeps the fault monitor's law -/

namespace Sys2Proof.Machine

/-! ### Lanes, checkers and frames -/

theorem State.changeChecker_monitorLaw {s : State} (hs : s.MonitorLaw) (x : Phase) (c : Checker) :
    (s.changeChecker x c).MonitorLaw := by
  unfold State.changeChecker
  split
  · exact State.raise_monitorLaw (s := { s with checkers := _ }) hs _
  · exact hs

theorem State.endTimebase_monitorLaw {s : State} (hs : s.MonitorLaw) (x : Phase) : (s.endTimebase x).MonitorLaw := by
  unfold State.endTimebase
  dsimp only
  split
  · exact State.raise_monitorLaw (s := { s with checkers := _ }) hs _
  · exact hs

theorem State.sequenceError_monitorLaw {s : State} (hs : s.MonitorLaw) (x : Phase) :
    (s.sequenceError x).MonitorLaw := by
  unfold State.sequenceError
  dsimp only
  split
  · exact State.raise_monitorLaw (State.changeLane_monitorLaw hs x _) _
  · exact State.changeLane_monitorLaw hs x _

theorem State.receiveFrame_monitorLaw {s : State} (hs : s.MonitorLaw) (x : Phase) (f : LineFrame) :
    (s.receiveFrame x f).MonitorLaw := by
  have hsample (g : SampleFrame) : (s.judgeSample x g).MonitorLaw := by
    unfold State.judgeSample
    dsimp only
    split
    · split
      · exact State.sequenceError_monitorLaw hs x
      · exact State.raiseIf_monitorLaw (State.raiseIf_monitorLaw (State.changeLane_monitorLaw hs x _) _ _) _ _
    · split
      · exact State.changeLane_monitorLaw hs x _
      · exact State.sequenceError_monitorLaw hs x
  have hframe (g : UpLaneFrame) : (s.judgeFrame x g).MonitorLaw := by
    unfold State.judgeFrame
    dsimp only
    split
    · exact State.sequenceError_monitorLaw hs x
    · split
      · split
        · exact State.changeChecker_monitorLaw hs x _
        · exact State.sequenceError_monitorLaw hs x
      · split
        · exact State.changeLane_monitorLaw hs x _
        · exact hsample _
  unfold State.receiveFrame
  dsimp only
  split
  · exact hs
  · split
    · exact State.changeLane_monitorLaw hs x _
    · exact hframe _

/-! ### Releases and strobes -/

/-- A release changes ESTIMATING and reports it, and then changes the lanes one by one. -/
theorem State.releaseSet_monitorLaw {s : State} (hs : s.MonitorLaw) (n : StrobeIndex) (rest : List StrobeIndex) :
    (s.releaseSet n rest).MonitorLaw := by
  unfold State.releaseSet
  dsimp only
  refine State.changeLane_monitorLaw (State.changeLane_monitorLaw (State.changeLane_monitorLaw ?_ _ _) _ _) _ _
  refine (State.monitorLaw_iff _).mpr (State.report_monitorLawBut ?_ (State.liveConditions_estimating _))
  refine hs.but rfl rfl rfl rfl fun k hk => ?_
  simp only [List.forall_mem_cons] at hk
  simp [State.liveConditions_getLsbD, State.phaseConditions_getLsbD, hk.1]

theorem State.releaseIfDue_monitorLaw {s : State} (hs : s.MonitorLaw) : s.releaseIfDue.MonitorLaw := by
  unfold State.releaseIfDue
  split
  · split
    · exact hs
    · exact State.releaseSet_monitorLaw hs _ _
  · exact hs

theorem State.takePeriodEnd_monitorLaw {s : State} (hs : s.MonitorLaw) (x : Phase) :
    (s.takePeriodEnd x).MonitorLaw := by
  unfold State.takePeriodEnd
  split
  · exact State.changeLane_monitorLaw hs x _
  · exact hs

theorem State.release_monitorLaw {s : State} (hs : s.MonitorLaw) : s.release.MonitorLaw :=
  State.takePeriodEnd_monitorLaw (State.takePeriodEnd_monitorLaw (State.takePeriodEnd_monitorLaw
    (State.releaseIfDue_monitorLaw hs) _) _) _

theorem State.strobeChecker_monitorLaw {s : State} (hs : s.MonitorLaw) (x : Phase) (n : StrobeIndex) :
    (s.strobeChecker x n).MonitorLaw := by
  unfold State.strobeChecker
  split
  · exact State.changeChecker_monitorLaw hs x _
  · exact hs

theorem Monitor.countStrobe_flags (m : Monitor) (limit : Nat) :
    ((m.countStrobe limit).conditions, (m.countStrobe limit).latched, (m.countStrobe limit).mask,
      (m.countStrobe limit).alert) = (m.conditions, m.latched, m.mask, m.alert) := by
  unfold Monitor.countStrobe
  split <;> rfl

theorem State.issueStrobe_monitorLaw {s : State} (hs : s.MonitorLaw) : s.issueStrobe.MonitorLaw := by
  unfold State.issueStrobe
  refine State.strobeChecker_monitorLaw (State.strobeChecker_monitorLaw (State.strobeChecker_monitorLaw ?_ _ _) _ _) _ _
  exact hs.congr (Monitor.countStrobe_flags _ _) rfl

/-! ### Capture and credits -/

theorem State.captureRunning_monitorLaw {s : State} (hs : s.MonitorLaw) (c : CompletedSet) :
    (s.captureRunning c).MonitorLaw := by
  have hforward {u : State} (hu : u.MonitorLaw) : (u.forward c).MonitorLaw := by
    unfold State.forward
    split
    · exact hu
    · exact State.raise_monitorLaw (s := { u with capture := _ }) hu _
  unfold State.captureRunning
  dsimp only
  generalize hu : (if s.capture.sourceIndex = none
      then ({ s with capture := { s.capture with sourceIndex := some c.index } } : State) else s) = u
  have hu' : u.MonitorLaw := by
    rw [← hu]
    split <;> exact hs
  split
  · exact hforward hu'
  · exact hu'

theorem State.captureSet_monitorLaw {s : State} (hs : s.MonitorLaw) (c : CompletedSet) :
    (s.captureSet c).MonitorLaw := by
  unfold State.captureSet
  split
  · exact hs
  · split
    · exact hs
    · refine State.captureRunning_monitorLaw ?_ c
      exact hs
  · exact State.captureRunning_monitorLaw hs c

theorem State.creditBank_monitorLaw {s : State} (hs : s.MonitorLaw) (q : Nat) (b : Band) (f : Flows)
    (g : PerPhase Flows) (m : Bool) : (s.creditBank q b f g m).MonitorLaw := by
  have hraised (bank : Bank) (wraps : Bool) : (({ s with bank := bank } : State).raiseIf wraps .energyRollover).MonitorLaw :=
    State.raiseIf_monitorLaw (s := { s with bank := bank }) hs _ _
  exact hraised _ _

theorem State.closeInterval_monitorLaw {s : State} (hs : s.MonitorLaw) (b : Band) : (s.closeInterval b).MonitorLaw := by
  unfold State.closeInterval
  dsimp only
  split
  · exact hs
  · exact hs
  · split
    · exact hs
    · refine State.raise_monitorLaw ?_ _
      exact hs
  · exact hs

theorem State.takeCredit_monitorLaw {s : State} (hs : s.MonitorLaw) : s.takeCredit.MonitorLaw := by
  unfold State.takeCredit
  split
  · exact hs
  · unfold State.acceptCredit
    dsimp only
    split
    · exact hs
    · exact hs
    · exact hs
    · split
      · refine State.closeInterval_monitorLaw ?_ _
        exact hs
      · exact hs

theorem State.takeCredits_monitorLaw (n : Nat) {s : State} (hs : s.MonitorLaw) : (State.takeCredits n s).MonitorLaw := by
  induction n generalizing s with
  | zero => exact hs
  | succ n ih => exact ih (State.takeCredit_monitorLaw hs)

/-! ### Installs -/

theorem State.evaluate_monitorLaw {s : State} (hs : s.MonitorLaw) : s.evaluate.MonitorLaw :=
  hs.congr (by simp) (by simp [State.liveConditions, State.phaseConditions])

theorem State.installAtLane_monitorLaw {s : State} (hs : s.MonitorLaw) (was restart : Bool) (x : Phase) :
    (s.installAtLane was restart x).MonitorLaw := by
  unfold State.installAtLane
  dsimp only
  refine State.changeLane_monitorLaw ?_ x _
  split
  · exact hs.congr (by simp) (by simp [State.liveConditions, State.phaseConditions])
  · exact hs

theorem State.installAtBank_monitorLaw {s : State} (hs : s.MonitorLaw) (old : Option Meter) (new : Meter) (b : Band) :
    (s.installAtBank old new b).MonitorLaw := by
  unfold State.installAtBank
  split
  · exact hs
  · split
    · exact hs
    · exact State.creditBank_monitorLaw hs _ _ _ _ _

theorem State.installAtDemand_monitorLaw {s : State} (hs : s.MonitorLaw) (old : Option Meter) (new : Meter) :
    (s.installAtDemand old new).MonitorLaw := by
  have hcredits : (s.creditsBeforeInstall old).MonitorLaw :=
    State.takeCredits_monitorLaw _
      (s := { s with tables := { s.tables with meterActive := old }, freeChoices := s.freeChoices + 1 }) hs
  unfold State.installAtDemand
  split
  · unfold State.abandonForInstall
    dsimp only
    split <;> exact hcredits
  · exact hs

theorem State.installAtAligner_monitorLaw {s : State} (hs : s.MonitorLaw) (old : Option Meter) (new : Meter) :
    (s.installAtAligner old new).MonitorLaw :=
  hs.congr (by simp) (by simp [State.liveConditions, State.phaseConditions])

theorem State.installAtWatchdog_flags (s : State) (old : Option Meter) (new : Meter) :
    ((s.installAtWatchdog old new).monitor.conditions, (s.installAtWatchdog old new).monitor.latched,
      (s.installAtWatchdog old new).monitor.mask, (s.installAtWatchdog old new).monitor.alert)
      = (s.monitor.conditions, s.monitor.latched, s.monitor.mask, s.monitor.alert) := by
  unfold State.installAtWatchdog
  dsimp only
  generalize (match old with
    | none => 0
    | some m => m.watchdog) = was
  repeat' split
  all_goals rfl

theorem State.installAtWatchdog_monitorLaw {s : State} (hs : s.MonitorLaw) (old : Option Meter) (new : Meter) :
    (s.installAtWatchdog old new).MonitorLaw :=
  hs.congr (s.installAtWatchdog_flags old new) (by simp [State.liveConditions, State.phaseConditions])

theorem State.installMeter_monitorLaw {s : State} (hs : s.MonitorLaw) (old : Option Meter) (new : Meter) (b : Band) :
    (s.installMeter old new b).MonitorLaw :=
  State.installAtWatchdog_monitorLaw (State.installAtDemand_monitorLaw (State.installAtBank_monitorLaw
    (State.installAtAligner_monitorLaw (State.installAtLane_monitorLaw (State.installAtLane_monitorLaw
      (State.installAtLane_monitorLaw hs _ _ _) _ _ _) _ _ _) _ _) _ _ _) _ _) _ _

theorem State.install_monitorLaw {s : State} (hs : s.MonitorLaw) (w : TableChoice) (b : Band) :
    (s.install w b).MonitorLaw := by
  unfold State.install
  dsimp only
  refine State.raiseIf_monitorLaw (State.raiseIf_monitorLaw (State.raiseIf_monitorLaw ?_ _ _) _ _) _ _
  have hcal : (if w.cal then ({ s with tables := s.tables.activate w, history := .all none } : State)
      else { s with tables := s.tables.activate w }).MonitorLaw := by
    split <;> exact hs
  generalize (if w.cal then ({ s with tables := s.tables.activate w, history := .all none } : State)
      else { s with tables := s.tables.activate w }) = u at hcal ⊢
  have hmeter : (if w.meter then u.installMeter s.tables.meterActive u.tables.meterPending.clamped b
      else u).MonitorLaw := by
    split
    · exact State.installMeter_monitorLaw hcal _ _ _
    · exact hcal
  split
  · exact State.evaluate_monitorLaw hmeter
  · exact hmeter

/-! ### The netting engine -/

theorem State.queueReport_monitorLaw {s : State} (hs : s.MonitorLaw) (r : Summary) : (s.queueReport r).MonitorLaw := by
  unfold State.queueReport
  split
  · exact hs
  · refine State.raise_monitorLaw ?_ _
    exact hs

theorem State.closeStages_monitorLaw {s : State} (hs : s.MonitorLaw) (w : Window) (o : Opening) (cause : CloseCause) :
    (s.closeStages w o cause).MonitorLaw := by
  unfold State.closeStages
  dsimp only
  generalize s.engine.summarize w o cause = r
  have hreported : ({ s with engine := s.engine.record r } : State).reportEngine.MonitorLaw :=
    State.reportEngine_of_monitorLaw hs rfl rfl rfl rfl
  generalize ({ s with engine := s.engine.record r } : State).reportEngine = u at hreported
  have hcredited := State.creditBank_monitorLaw hreported r.q r.band ⟨r.aImp, r.aExp⟩ r.grossShares r.intervalEnd
  generalize u.creditBank r.q r.band ⟨r.aImp, r.aExp⟩ r.grossShares r.intervalEnd = v at hcredited
  split
  · exact State.queueReport_monitorLaw hcredited r
  · exact hcredited

theorem State.closeWindow_monitorLaw {s : State} (hs : s.MonitorLaw) (w : Window) (o : Opening) (cause : CloseCause) :
    (s.closeWindow w o cause).MonitorLaw := by
  have hclosed := State.closeStages_monitorLaw hs w o cause
  unfold State.closeWindow
  dsimp only
  split
  · exact State.install_monitorLaw hclosed _ _
  · exact hclosed

theorem State.processSet_monitorLaw {s : State} (hs : s.MonitorLaw) (c : CompletedSet) :
    (s.processSet c).MonitorLaw := by
  have hinto (w : Window) (m : Meter) : (s.processInto w m c).MonitorLaw := by
    unfold State.processInto
    dsimp only
    generalize hu : ({ s with
        engine := { s.engine.countHold (c.status.getLsbD holdBit) with
          window := some (w.take c s.calendar.day s.calendar.minute m) }
        demand := s.demand.countSet } : State).reportEngine = u
    have hu' : u.MonitorLaw := by
      rw [← hu]
      exact State.reportEngine_of_monitorLaw hs rfl rfl rfl rfl
    split
    · exact hu'
    · split
      · refine State.closeWindow_monitorLaw ?_ _ _ _
        exact hu'.congr (by simp) (by simp [State.liveConditions, State.phaseConditions])
      · exact hu'
  unfold State.processSet
  split
  · exact hinto _ _
  · exact hinto _ _
  · exact hs

theorem State.takeCompleted_monitorLaw {s : State} (hs : s.MonitorLaw) : s.takeCompleted.MonitorLaw := by
  have hreband {u : State} (hu : u.MonitorLaw) : u.rebandEmpty.MonitorLaw := by
    unfold State.rebandEmpty
    repeat' split
    all_goals exact hu
  unfold State.takeCompleted
  split
  · exact hs
  · refine State.processSet_monitorLaw (hreband ?_) _
    exact hs

theorem State.takeRequest_monitorLaw {s : State} (hs : s.MonitorLaw) (cause : ForcedCause) :
    (s.takeRequest cause).MonitorLaw := by
  have hclose {u : State} (hu : u.MonitorLaw) : (u.requestClose cause).MonitorLaw := by
    unfold State.requestClose
    split
    · exact hu
    · exact hu
    · split
      · exact State.closeWindow_monitorLaw hu _ _ _
      · unfold State.requestEmpty
        split <;> exact hu
  unfold State.takeRequest
  split
  · refine hclose ?_
    exact hs
  · exact hs

/-! ### The engine's states -/

theorem State.takeExpiry_monitorLaw {s : State} (hs : s.MonitorLaw) : s.takeExpiry.MonitorLaw := by
  unfold State.takeExpiry
  split
  · unfold State.enterFailsafe
    dsimp only
    split
    · have hreported : ({ s with monitor := s.monitor.stopWatchdog, engine := { s.engine with state := .failsafe } } :
          State).reportEngine.MonitorLaw := State.reportEngine_of_monitorLaw hs rfl rfl rfl rfl
      generalize ({ s with monitor := s.monitor.stopWatchdog, engine := { s.engine with state := .failsafe } } :
          State).reportEngine = u at hreported
      refine State.evaluate_monitorLaw (State.raiseIf_monitorLaw ?_ _ _)
      exact hreported
    · exact hs
  · exact hs

theorem State.enterConfig_monitorLaw {s : State} (hs : s.MonitorLaw) : s.enterConfig.MonitorLaw := by
  unfold State.enterConfig
  have hreported : ({ s with
      engine := { s.engine with state := .config, window := none, unmetered := false }
      demand := s.demand.abandonToIdle
      monitor := s.monitor.stopWatchdog } : State).reportEngine.MonitorLaw :=
    State.reportEngine_of_monitorLaw hs rfl rfl rfl rfl
  generalize ({ s with
      engine := { s.engine with state := .config, window := none, unmetered := false }
      demand := s.demand.abandonToIdle
      monitor := s.monitor.stopWatchdog } : State).reportEngine = u at hreported
  exact hreported

theorem State.stopMetering_monitorLaw {s : State} (hs : s.MonitorLaw) : s.stopMetering.MonitorLaw := by
  unfold State.stopMetering
  split
  · split
    · exact State.evaluate_monitorLaw (State.enterConfig_monitorLaw (State.closeWindow_monitorLaw hs _ _ _))
    · exact State.evaluate_monitorLaw (State.install_monitorLaw (State.enterConfig_monitorLaw hs) _ _)
  · exact State.evaluate_monitorLaw (State.install_monitorLaw (State.enterConfig_monitorLaw hs) _ _)

theorem State.resumeMetering_monitorLaw {s : State} (hs : s.MonitorLaw) : s.resumeMetering.MonitorLaw := by
  refine State.evaluate_monitorLaw ?_
  exact State.reportEngine_of_monitorLaw (s := s) hs (t := { s with engine := _ }) rfl rfl rfl rfl

/-- METERING is entered from CONFIG, and both are without FAILSAFE. -/
theorem State.startMetering_monitorLaw {s : State} (hs : s.MonitorLaw) (hconfig : s.engine.state = .config) :
    s.startMetering.MonitorLaw := by
  unfold State.startMetering
  refine State.evaluate_monitorLaw ?_
  dsimp only
  refine hs.congr ?_ ?_
  · split <;> simp [State.startWatchdog]
  · split <;> simp [State.liveConditions, State.phaseConditions, hconfig, EngineState.isFailsafe]

/-- ENGINE RESET sets the conditions and the latches to those that the reset leaves true (R153). -/
theorem State.engineReset_monitorLaw (s : State) : s.engineReset.MonitorLaw := by
  unfold State.engineReset
  dsimp only
  refine State.raiseIf_monitorLaw ⟨rfl, ?_, rfl⟩ _ _
  exact BitVec.and_not_self _

/-! ### The link and the commands -/

theorem State.judgeDownlink_monitorLaw {s : State} (hs : s.MonitorLaw) (f : LineFrame) :
    (s.judgeDownlink f).MonitorLaw := by
  unfold State.judgeDownlink
  split
  · exact State.raise_monitorLaw hs _
  · unfold State.acceptCommand
    split
    · have hexpiry := State.takeExpiry_monitorLaw hs
      unfold State.queueCommand
      refine hexpiry.congr ?_ rfl
      dsimp only
      split <;> rfl
    · exact State.raise_monitorLaw hs _
  · exact hs
  · exact hs

theorem Monitor.setMask_monitorLaw {s : State} (hs : s.MonitorLaw) (mask : FlagSet) :
    ({ s with monitor := s.monitor.setMask mask } : State).MonitorLaw := by
  obtain ⟨hlive, hlatched, -⟩ := hs
  exact ⟨hlive, hlatched, rfl⟩

/-- A true condition is not cleared (R142). -/
theorem Monitor.clear_monitorLaw {s : State} (hs : s.MonitorLaw) (named : FlagSet) :
    ({ s with monitor := s.monitor.clear named } : State).MonitorLaw := by
  obtain ⟨hlive, hlatched, -⟩ := hs
  refine ⟨hlive, (FlagSet.and_not_eq_zero_iff _ _).mpr fun k hk => ?_, rfl⟩
  have hcondition : s.monitor.conditions.getLsbD k = true := hk
  have hlatch := (FlagSet.and_not_eq_zero_iff _ _).mp hlatched k hcondition
  rw [Monitor.clear_latched_getLsbD, hlatch, hcondition]
  simp

theorem State.loadTime_monitorLaw {s : State} (hs : s.MonitorLaw) (day minute strobeCount : Nat) :
    (s.loadTime day minute strobeCount).MonitorLaw := by
  unfold State.loadTime
  refine State.MonitorLaw.congr (s := State.evaluate _) (State.evaluate_monitorLaw ?_) rfl rfl
  refine State.MonitorLaw.congr (s := State.report _ _ _) ((State.monitorLaw_iff _).mpr
    (State.report_monitorLawBut (s := { s with calendar := s.calendar.load day minute strobeCount }) ?_ ?_)) rfl rfl
  · refine hs.but rfl rfl rfl rfl fun k hk => ?_
    simp only [List.forall_mem_cons] at hk
    simp [State.liveConditions_getLsbD, State.phaseConditions_getLsbD, hk.1]
  · rw [State.liveConditions_clockNotSet]
    rfl

theorem owner_monitorLaw (c : Instr) (p : List Byte) {s : State} (hwrites : c.writes = true) (hs : s.MonitorLaw) :
    (c.owner p s).state.MonitorLaw := by
  cases c with
  | start =>
    simp only [Instr.owner, start]
    split
    · exact hs
    · rename_i hconfig
      split
      · exact hs
      · exact State.startMetering_monitorLaw hs (not_not.mp hconfig)
  | stop =>
    simp only [Instr.owner, stop]
    split
    · exact hs
    · exact State.stopMetering_monitorLaw hs
  | resume =>
    simp only [Instr.owner, resume]
    split
    · exact State.resumeMetering_monitorLaw hs
    · exact hs
  | engineReset => exact s.engineReset_monitorLaw
  | snapshot => exact hs
  | preload =>
    simp only [Instr.owner, preload]
    repeat' split
    all_goals exact hs
  | setTime =>
    simp only [Instr.owner, setTime]
    split
    · exact hs
    · exact State.loadTime_monitorLaw hs _ _ _
  | addSpecialDay =>
    simp only [Instr.owner, addSpecialDay]
    repeat' split
    · exact hs
    · exact hs
    · exact State.evaluate_monitorLaw hs
    · exact hs
    · exact State.evaluate_monitorLaw hs
  | removeSpecialDay =>
    simp only [Instr.owner, removeSpecialDay]
    split
    · exact State.evaluate_monitorLaw hs
    · exact hs
  | resetDemand =>
    simp only [Instr.owner, resetDemand, State.okay_state, State.restartOneShot]
    repeat' split
    all_goals exact hs
  | writeTable =>
    simp only [Instr.owner, writeTable, writeTrigger, writeStaged]
    repeat' split
    all_goals exact hs
  | applyTable =>
    have happly (name : TableName) (crc : BitVec 16) : (applyStaged name crc s).state.MonitorLaw := by
      unfold applyStaged acceptApply
      dsimp only
      split
      · exact hs
      split
      · exact hs
      split
      · exact hs
      split
      · exact State.install_monitorLaw hs _ _
      · exact hs
    simp only [Instr.owner, applyTable]
    split
    · exact hs
    · exact hs
    · exact happly _ _
    · exact happly _ _
    · exact happly _ _
  | cancelApply =>
    simp only [Instr.owner, cancelApply, cancelStaged]
    repeat' split
    all_goals exact hs
  | clearFlags =>
    simp only [Instr.owner, clearFlags]
    split
    · exact hs
    · exact Monitor.clear_monitorLaw hs _
  | setMask =>
    simp only [Instr.owner, setMask]
    split
    · exact hs
    · exact Monitor.setMask_monitorLaw hs _
  | captureArm =>
    simp only [Instr.owner, captureArm]
    repeat' split
    all_goals exact hs
  | captureTrigger =>
    simp only [Instr.owner, captureTrigger]
    split <;> exact hs
  | captureStop =>
    simp only [Instr.owner, captureStop]
    split <;> exact hs
  | linkTestStart =>
    simp only [Instr.owner, linkTestStart]
    repeat' split
    · exact hs
    · exact hs
    · exact hs
    · refine State.changeLane_monitorLaw ?_ _ _
      exact hs
  | linkTestStop =>
    simp only [Instr.owner, linkTestStop]
    repeat' split
    · exact hs
    · refine State.changeLane_monitorLaw ?_ _ _
      exact hs.congr (by simp) (by simp [State.liveConditions, State.phaseConditions])
    · exact hs
  | _ => exact Bool.noConfusion hwrites

/-- Every operation reports the conditions that it changes, so the law stands when it ends. -/
theorem State.MonitorLaw.kept : Kept State.MonitorLaw where
  pending _ _ hs := hs
  powerOnReset s _ := State.MonitorLaw.congr (s := State.reset) ⟨by decide, by decide, by decide⟩ rfl rfl
  resetEnds _ hs := hs
  periodEnd _ x hs := State.takePeriodEnd_monitorLaw hs x
  captureTerminal s hs := by
    unfold State.takeCaptureTerminal
    split <;> exact hs
  timebaseEnd s x hs := by
    unfold State.takeTimebaseEnd
    split
    · exact State.endTimebase_monitorLaw hs x
    · exact hs
  terminal _ hs := hs.congr (by simp) (by simp [State.liveConditions, State.phaseConditions])
  rollover _ hs := hs.congr (by simp) (by simp [State.liveConditions, State.phaseConditions])
  strobe _ hs := State.issueStrobe_monitorLaw (State.release_monitorLaw (State.release_monitorLaw
    (State.release_monitorLaw (State.takeExpiry_monitorLaw hs))))
  receiveFrame _ x f hs := State.receiveFrame_monitorLaw hs x f
  releaseIfDue _ hs := State.releaseIfDue_monitorLaw hs
  takeReleased s hs := by
    unfold State.takeReleased
    split
    · exact hs
    · refine State.captureSet_monitorLaw ?_ _
      exact hs
  takeCompleted _ hs := State.takeCompleted_monitorLaw hs
  takeRequest _ c hs := State.takeRequest_monitorLaw hs c
  takeCredit _ hs := State.takeCredit_monitorLaw hs
  takeNotice _ hs := hs.congr (by simp) (by simp [State.liveConditions, State.phaseConditions])
  takeExpiry _ hs := State.takeExpiry_monitorLaw hs
  downlinkFrame s f hs := by
    unfold State.downlinkFrame
    split
    · exact hs
    · exact State.judgeDownlink_monitorLaw hs f
    · exact State.judgeDownlink_monitorLaw hs _
  downlinkIdleLine s hs := by
    unfold State.downlinkIdleLine
    split
    · exact hs
    · exact hs
    · exact State.judgeDownlink_monitorLaw hs _
  choose _ hs := hs.congr (by simp) (by simp [State.liveConditions, State.phaseConditions])
  withCommands _ _ _ _ hs := hs
  respond _ _ _ _ _ hs := hs
  owner c p _ hwrites hs := owner_monitorLaw c p hwrites hs

/-- Settles O6: the law is kept by every operation, so by every step. -/
theorem everyStepKeepsTheMonitorLaw : Obligations.EveryStepKeepsTheMonitorLaw :=
  fun _ _ => State.MonitorLaw.kept.step

end Sys2Proof.Machine

/-! # The law of the open range and of the lane queues (R5, R22, R23) -/

namespace Sys2Proof.Machine

/-! ### States of the same range and lanes -/

theorem Aligner.rangeLaw_congr {al al' : Aligner} (hnext : al'.nextIndex = al.nextIndex)
    (hrange : al'.openRange = al.openRange) (hlatest : al'.latest = al.latest) : al'.rangeLaw ↔ al.rangeLaw := by
  unfold Aligner.rangeLaw
  rw [hnext, hrange, hlatest]

theorem Aligner.oldest_congr {al al' : Aligner} (hnext : al'.nextIndex = al.nextIndex)
    (hrange : al'.openRange = al.openRange) : al'.oldest = al.oldest := by
  unfold Aligner.oldest
  rw [hnext, hrange]

theorem Lane.queueLaw_congr {l : Lane} {al al' : Aligner} (hnext : al'.nextIndex = al.nextIndex)
    (hrange : al'.openRange = al.openRange) : l.queueLaw al' ↔ l.queueLaw al := by
  unfold Lane.queueLaw
  rw [Aligner.oldest_congr hnext hrange, hrange]

/-- The law speaks of the range, the two indices at its end, and the lanes. -/
theorem State.RangeLaw.of_lanes {s t : State} (hs : s.RangeLaw) (hnext : t.aligner.nextIndex = s.aligner.nextIndex)
    (hrange : t.aligner.openRange = s.aligner.openRange) (hlatest : t.aligner.latest = s.aligner.latest)
    (hlanes : ∀ x, (t.lanes.get x).queueLaw s.aligner) : t.RangeLaw :=
  ⟨(Aligner.rangeLaw_congr hnext hrange hlatest).mpr hs.1, fun x => (Lane.queueLaw_congr hnext hrange).mpr (hlanes x)⟩

theorem State.RangeLaw.congr {s t : State} (hs : s.RangeLaw) (hnext : t.aligner.nextIndex = s.aligner.nextIndex)
    (hrange : t.aligner.openRange = s.aligner.openRange) (hlatest : t.aligner.latest = s.aligner.latest)
    (hlanes : t.lanes = s.lanes) : t.RangeLaw :=
  hs.of_lanes hnext hrange hlatest (hlanes ▸ hs.2)

/-! ### Lane queues -/

theorem Lane.queueLaw_of_empty {l : Lane} {al : Aligner} (h : l.queue = []) : l.queueLaw al := by
  simp [Lane.queueLaw, h]

/-- A lane with the queue of another, which it may hold in its own state too. -/
theorem Lane.queueLaw.of_queue {l l' : Lane} {al : Aligner} (hl : l.queueLaw al) (hqueue : l'.queue = l.queue)
    (hstate : l'.state.waited = false → l.state.waited = false) : l'.queueLaw al := by
  obtain ⟨horder, hopen, hempty⟩ := hl
  unfold Lane.queueLaw
  rw [hqueue]
  exact ⟨horder, hopen, fun h => hempty (hstate h)⟩

theorem State.changeLane_rangeLaw {s : State} (hs : s.RangeLaw) {x : Phase} {l : Lane} (hl : l.queueLaw s.aligner) :
    (s.changeLane x l).RangeLaw := by
  refine hs.of_lanes (by simp) (by simp) (by simp) fun y => ?_
  rw [State.changeLane_lanes, PerPhase.get_set]
  split
  · exact hl
  · exact hs.2 y

/-! ### Frames -/

/-- With `k` and at most two strobes after it open, the indices at most that far from `k` are those of the range. -/
theorem Aligner.inRange_of_openRange {al : Aligner} {k newest : StrobeIndex} {l : List StrobeIndex}
    (hrange : al.openRange = k :: l) (hlast : (k :: l).getLast? = some newest) (n : StrobeIndex) :
    al.inRange n = true ↔ (n - k).toNat ≤ (newest - k).toNat := by
  simp [Aligner.inRange, Aligner.oldest, hrange, hlast]

/-- The open range is the run of indices that `inRange` measures (R4, R23). -/
theorem Aligner.inRange_iff {al : Aligner} (h : al.rangeLaw) (n : StrobeIndex) :
    al.inRange n = true ↔ n ∈ al.openRange := by
  obtain ⟨hgaps, -⟩ := h
  match hrange : al.openRange with
  | [] => simp [Aligner.inRange, hrange]
  | [m] =>
    rw [Aligner.inRange_of_openRange (newest := m) hrange rfl, List.mem_singleton]
    bv_omega
  | [m, k] =>
    rw [hrange] at hgaps
    obtain ⟨rfl, -⟩ := hgaps
    rw [Aligner.inRange_of_openRange (newest := m + 1) hrange rfl]
    simp only [List.mem_cons, List.not_mem_nil, or_false]
    bv_omega
  | [j, m, k] =>
    rw [hrange] at hgaps
    obtain ⟨rfl, rfl, -⟩ := hgaps
    rw [Aligner.inRange_of_openRange (newest := j + 1 + 1) hrange rfl]
    simp only [List.mem_cons, List.not_mem_nil, or_false]
    bv_omega
  | _ :: _ :: _ :: _ :: _ =>
    rw [hrange] at hgaps
    exact hgaps.elim

theorem mem_insertFrame (oldest : StrobeIndex) (f g : SampleFrame) (l : List SampleFrame) :
    g ∈ insertFrame oldest f l ↔ g = f ∨ g ∈ l := by
  induction l with
  | nil => simp [insertFrame]
  | cons a l ih =>
    unfold insertFrame
    split
    · simp
    · rw [List.mem_cons, ih, List.mem_cons]
      exact or_left_comm

/-- The frame is placed before the later indices and after the earlier ones (R5). -/
theorem pairwise_insertFrame (oldest : StrobeIndex) (f : SampleFrame) (l : List SampleFrame)
    (horder : l.Pairwise (fun f g => (f.index - oldest).toNat < (g.index - oldest).toNat))
    (hnew : ∀ g ∈ l, g.index ≠ f.index) :
    (insertFrame oldest f l).Pairwise (fun f g => (f.index - oldest).toNat < (g.index - oldest).toNat) := by
  induction l with
  | nil => simp [insertFrame]
  | cons a l ih =>
    obtain ⟨hfirst, hrest⟩ := List.pairwise_cons.mp horder
    obtain ⟨hfa, hfl⟩ := List.forall_mem_cons.mp hnew
    unfold insertFrame
    split
    · rename_i hplace
      exact List.pairwise_cons.mpr
        ⟨List.forall_mem_cons.mpr ⟨hplace, fun g hg => hplace.trans (hfirst g hg)⟩, horder⟩
    · rename_i hplace
      refine List.pairwise_cons.mpr ⟨fun g hg => ?_, ih hrest hfl⟩
      rcases (mem_insertFrame oldest f g l).mp hg with rfl | hg
      · bv_omega
      · exact hfirst g hg

/-- Acceptance keeps the queue, or empties it before the frame joins (R10, R11). -/
theorem Lane.acceptState_queueLaw {l : Lane} {al : Aligner} (hl : l.queueLaw al) (restart : Bool) :
    (l.acceptState restart).queueLaw al ∧ ∀ f ∈ (l.acceptState restart).queue, f ∈ l.queue := by
  obtain ⟨-, -, hempty⟩ := id hl
  unfold Lane.acceptState
  split
  · rename_i hlost
    have hqueue : l.queue = [] := hempty (by rw [hlost]; rfl)
    split <;> exact ⟨Lane.queueLaw_of_empty (by simp [hqueue]), by simp [hqueue]⟩
  · split
    · exact ⟨Lane.queueLaw_of_empty (by simp), by simp⟩
    · exact ⟨hl, fun f hf => hf⟩
  · split
    · exact ⟨Lane.queueLaw_of_empty (by simp), by simp⟩
    · exact ⟨hl, fun f hf => hf⟩
  · split
    · exact ⟨hl.of_queue (by simp) (by simp), by simp⟩
    · exact ⟨hl, fun f hf => hf⟩
  · exact ⟨hl, fun f hf => hf⟩
  · exact ⟨hl, fun f hf => hf⟩

/-- A lane that accepts a frame is waited for afterwards (R10, R11). -/
theorem Lane.acceptState_waited {l : Lane} (hoff : l.state ≠ .off) (htest : l.state ≠ .test) (restart : Bool) :
    (l.acceptState restart).state.waited = true := by
  unfold Lane.acceptState
  cases hstate : l.state with
  | off => exact absurd hstate hoff
  | test => exact absurd hstate htest
  | seek | up | suspect | lost => cases restart <;> simp [hstate, LaneState.waited]

theorem Lane.feed_frame (l : Lane) (limit : Nat) (low : Bool) (f : SampleFrame) :
    (l.feed limit low f).state = l.state ∧ (l.feed limit low f).queue = l.queue := by
  unfold Lane.feed
  split <;> exact ⟨rfl, rfl⟩

/-- An accepted frame of an open index that the lane does not hold joins the queue at its place (R4, R5). -/
theorem Lane.accept_queueLaw {l : Lane} {al : Aligner} (hl : l.queueLaw al) (limit : Nat) (low : Bool) {f : SampleFrame}
    (hopen : f.index ∈ al.openRange) (hnew : ∀ g ∈ l.queue, g.index ≠ f.index) (hoff : l.state ≠ .off)
    (htest : l.state ≠ .test) : (l.accept al.oldest limit low f).queueLaw al := by
  have hcounted : (l.countAccepted f).queueLaw al := hl.of_queue rfl id
  obtain ⟨⟨horder, hrange, -⟩, hkept⟩ := Lane.acceptState_queueLaw hcounted f.restart
  have hwaited := Lane.acceptState_waited (l := l.countAccepted f) hoff htest f.restart
  obtain ⟨hstate, hqueue⟩ := Lane.feed_frame ((l.countAccepted f).acceptState f.restart) limit low f
  refine ⟨?_, fun g hg => ?_, fun hno => ?_⟩
  · refine pairwise_insertFrame _ _ _ (by rwa [hqueue]) fun g hg => ?_
    rw [hqueue] at hg
    exact hnew g (hkept g hg)
  · rcases (mem_insertFrame _ _ _ _).mp hg with rfl | hg
    · exact hopen
    · rw [hqueue] at hg
      exact hrange g hg
  · exact Bool.noConfusion ((hstate ▸ hwaited).symm.trans hno)

theorem Lane.countSequenceError_frame (l : Lane) :
    l.countSequenceError.state = l.state ∧ l.countSequenceError.queue = l.queue := by
  unfold Lane.countSequenceError
  dsimp only
  split <;> exact ⟨rfl, rfl⟩

theorem State.sequenceError_rangeLaw {s : State} (hs : s.RangeLaw) (x : Phase) : (s.sequenceError x).RangeLaw := by
  obtain ⟨hstate, hqueue⟩ := (s.lanes.get x).countSequenceError_frame
  unfold State.sequenceError
  dsimp only
  split
  · have hresync : (s.changeLane x (s.lanes.get x).countSequenceError.resync).RangeLaw :=
      State.changeLane_rangeLaw hs (Lane.queueLaw_of_empty (by simp [Lane.resync]))
    exact hresync.congr (by simp) (by simp) (by simp) (by simp)
  · exact State.changeLane_rangeLaw hs ((hs.2 x).of_queue hqueue (by rw [hstate]; exact id))

theorem State.judgeSample_rangeLaw {s : State} (hs : s.RangeLaw) {x : Phase} (f : SampleFrame)
    (hoff : (s.lanes.get x).state ≠ .off) (htest : (s.lanes.get x).state ≠ .test) : (s.judgeSample x f).RangeLaw := by
  unfold State.judgeSample
  dsimp only
  split
  · rename_i hrange
    split
    · exact State.sequenceError_rangeLaw hs x
    · rename_i hnew
      have hnew' : ∀ g ∈ (s.lanes.get x).queue, g.index ≠ f.index := by simpa using hnew
      have haccepted := State.changeLane_rangeLaw (x := x) hs (Lane.accept_queueLaw (hs.2 x) s.stuckLimit
        (s.engine.lowVoltage.get x) ((Aligner.inRange_iff hs.1 _).mp hrange) hnew' hoff htest)
      exact haccepted.congr (by simp) (by simp) (by simp) (by simp)
  · split
    · exact State.changeLane_rangeLaw hs ((hs.2 x).of_queue rfl id)
    · exact State.sequenceError_rangeLaw hs x

theorem State.receiveFrame_rangeLaw {s : State} (hs : s.RangeLaw) (x : Phase) (f : LineFrame) :
    (s.receiveFrame x f).RangeLaw := by
  unfold State.receiveFrame
  dsimp only
  split
  · exact hs
  rename_i hoff
  split
  · exact State.changeLane_rangeLaw hs ((hs.2 x).of_queue rfl id)
  unfold State.judgeFrame
  dsimp only
  split
  · exact State.sequenceError_rangeLaw hs x
  split
  · split
    · exact hs.congr (by simp) (by simp) (by simp) (by simp)
    · exact State.sequenceError_rangeLaw hs x
  split
  · exact State.changeLane_rangeLaw hs ((hs.2 x).of_queue rfl id)
  · rename_i htest
    exact State.judgeSample_rangeLaw hs _ hoff htest

/-! ### Releases (R5, R8, R24) -/

theorem State.releaseSet_lanes_get (s : State) (n : StrobeIndex) (rest : List StrobeIndex) (x : Phase) :
    (s.releaseSet n rest).lanes.get x = (s.lanes.get x).afterRelease n := by
  unfold State.releaseSet
  dsimp only
  simp only [State.changeLane_lanes, PerPhase.get_set, State.report_frame]
  cases x <;> rfl

theorem State.releaseSet_aligner (s : State) (n : StrobeIndex) (rest : List StrobeIndex) :
    (s.releaseSet n rest).aligner.nextIndex = s.aligner.nextIndex ∧ (s.releaseSet n rest).aligner.openRange = rest
      ∧ (s.releaseSet n rest).aligner.latest = s.aligner.latest := by
  simp [State.releaseSet]

/-- The range without its oldest index keeps its law. -/
theorem Aligner.rangeLaw_tail {al al' : Aligner} {n : StrobeIndex} {rest : List StrobeIndex} (h : al.rangeLaw)
    (hrange : al.openRange = n :: rest) (hnext : al'.nextIndex = al.nextIndex) (hrest : al'.openRange = rest)
    (hlatest : al'.latest = al.latest) : al'.rangeLaw := by
  obtain ⟨hgaps, hlast⟩ := h
  rw [hrange] at hgaps hlast
  unfold Aligner.rangeLaw
  rw [hnext, hrest, hlatest]
  match rest with
  | [] => exact ⟨trivial, by simp⟩
  | [m] => exact ⟨hgaps.2, hlast⟩
  | [m, k] => exact ⟨hgaps.2, hlast⟩
  | _ :: _ :: _ :: _ => exact hgaps.elim

/-- The oldest open index moves on by one at a release. -/
theorem Aligner.oldest_tail {al al' : Aligner} {n : StrobeIndex} {rest : List StrobeIndex} (h : al.rangeLaw)
    (hrange : al.openRange = n :: rest) (hnext : al'.nextIndex = al.nextIndex) (hrest : al'.openRange = rest) :
    al.oldest = n ∧ al'.oldest = n + 1 := by
  obtain ⟨hgaps, -⟩ := h
  rw [hrange] at hgaps
  unfold Aligner.oldest
  rw [hrange, hrest, hnext]
  refine ⟨rfl, ?_⟩
  match rest with
  | [] => exact hgaps.symm
  | [m] => exact hgaps.1.symm
  | [m, k] => exact hgaps.1.symm
  | _ :: _ :: _ :: _ => exact hgaps.elim

/-- Counting runs keeps the queue, or empties it on the way to LOST (R9). -/
theorem Lane.countRuns_frame {l : Lane} (held : Bool) (hwaited : l.state.waited = true) :
    ((l.countRuns held).queue = l.queue ∧ (l.countRuns held).state.waited = true) ∨ (l.countRuns held).queue = [] := by
  unfold Lane.countRuns
  dsimp only
  split
  · left
    split
    · split
      · exact ⟨rfl, rfl⟩
      · exact ⟨rfl, hwaited⟩
    · exact ⟨rfl, hwaited⟩
  · by_cases hseek : l.state = .seek
    · rw [if_pos hseek]
      split
      · exact .inr (by simp)
      · exact .inl ⟨rfl, hwaited⟩
    · rw [if_neg hseek]
      split
      · exact .inr (by simp)
      · exact .inl ⟨rfl, hwaited⟩

/-- The entry of the released set leaves the queue, which then lies in the rest of the range. -/
theorem Lane.dropEntry_queueLaw {l : Lane} {al al' : Aligner} {n : StrobeIndex} {rest : List StrobeIndex}
    (h : al.rangeLaw) (hrange : al.openRange = n :: rest) (hnext : al'.nextIndex = al.nextIndex)
    (hrest : al'.openRange = rest) (hl : l.queueLaw al) : (l.dropEntry n).queueLaw al' := by
  obtain ⟨holdest, holdest'⟩ := Aligner.oldest_tail h hrange hnext hrest
  obtain ⟨horder, hopen, hempty⟩ := hl
  have hkept : ∀ f ∈ (l.dropEntry n).queue, f ∈ l.queue ∧ f.index ≠ n := by simp [Lane.dropEntry]
  refine ⟨?_, fun f hf => ?_, fun hno => ?_⟩
  · rw [holdest] at horder
    rw [holdest']
    refine (horder.filter _).imp_of_mem fun {f g} hf hg hfg => ?_
    have hfn := (hkept f hf).2
    bv_omega
  · obtain ⟨hmem, hne⟩ := hkept f hf
    have hin := hopen f hmem
    rw [hrange] at hin
    rw [hrest]
    exact (List.mem_cons.mp hin).resolve_left hne
  · simp [Lane.dropEntry, hempty hno]

theorem Lane.afterRelease_queueLaw {l : Lane} {al al' : Aligner} {n : StrobeIndex} {rest : List StrobeIndex}
    (h : al.rangeLaw) (hrange : al.openRange = n :: rest) (hnext : al'.nextIndex = al.nextIndex)
    (hrest : al'.openRange = rest) (hl : l.queueLaw al) : (l.afterRelease n).queueLaw al' := by
  have hdropped := Lane.dropEntry_queueLaw h hrange hnext hrest hl
  have hcounted (held : Bool) (hwaited : l.state.waited = true) :
      (((l.dropEntry n).countRuns held).countRelease).queueLaw al' := by
    have hrelease (k : Lane) : k.countRelease.queue = k.queue ∧ k.countRelease.state = k.state := by
      unfold Lane.countRelease
      split <;> exact ⟨rfl, rfl⟩
    obtain ⟨hqueue, hstate⟩ := hrelease ((l.dropEntry n).countRuns held)
    rcases Lane.countRuns_frame (l := l.dropEntry n) held hwaited with ⟨hsame, hstill⟩ | hnone
    · exact hdropped.of_queue (hqueue.trans hsame) fun hno => Bool.noConfusion ((hstate ▸ hno).symm.trans hstill)
    · exact Lane.queueLaw_of_empty (hqueue.trans hnone)
  obtain ⟨-, -, hempty⟩ := hl
  unfold Lane.afterRelease
  dsimp only
  split
  · rename_i hstate
    exact Lane.queueLaw_of_empty (hempty (by rw [hstate]; rfl))
  · rename_i hstate
    exact Lane.queueLaw_of_empty (hempty (by rw [hstate]; rfl))
  · exact hdropped.of_queue rfl id
  · rename_i hstate
    exact hcounted _ (by rw [hstate]; rfl)
  · rename_i hstate
    exact hcounted _ (by rw [hstate]; rfl)
  · rename_i hstate
    exact hcounted _ (by rw [hstate]; rfl)

theorem State.releaseSet_rangeLaw {s : State} (hs : s.RangeLaw) {n : StrobeIndex} {rest : List StrobeIndex}
    (hrange : s.aligner.openRange = n :: rest) : (s.releaseSet n rest).RangeLaw := by
  obtain ⟨hnext, hrest, hlatest⟩ := s.releaseSet_aligner n rest
  refine ⟨Aligner.rangeLaw_tail hs.1 hrange hnext hrest hlatest, fun x => ?_⟩
  rw [State.releaseSet_lanes_get]
  exact Lane.afterRelease_queueLaw hs.1 hrange hnext hrest (hs.2 x)

theorem State.releaseIfDue_rangeLaw {s : State} (hs : s.RangeLaw) : s.releaseIfDue.RangeLaw := by
  unfold State.releaseIfDue
  split
  · split
    · exact hs
    · rename_i hrange
      exact State.releaseSet_rangeLaw hs hrange
  · exact hs

theorem Lane.judgePeriod_waited (l : Lane) (m : Option Meter) : (l.judgePeriod m).waited = l.state.waited := by
  unfold Lane.judgePeriod
  split
  · rename_i hstate
    rw [hstate]
    split <;> rfl
  · rename_i hstate
    rw [hstate]
    split <;> rfl
  · rfl

theorem State.takePeriodEnd_rangeLaw {s : State} (hs : s.RangeLaw) (x : Phase) : (s.takePeriodEnd x).RangeLaw := by
  unfold State.takePeriodEnd
  split
  · refine State.changeLane_rangeLaw hs ((hs.2 x).of_queue rfl ?_)
    rw [Lane.judgePeriod_waited]
    exact id
  · exact hs

theorem State.release_rangeLaw {s : State} (hs : s.RangeLaw) : s.release.RangeLaw :=
  State.takePeriodEnd_rangeLaw (State.takePeriodEnd_rangeLaw (State.takePeriodEnd_rangeLaw
    (State.releaseIfDue_rangeLaw hs) _) _) _

/-! ### The strobe (R22) -/

/-- A range of three indices has its oldest set at the deadline, so a release leaves two at most (R23, R24). -/
theorem State.release_openRange_length {s : State} (hs : s.RangeLaw) : s.release.aligner.openRange.length ≤ 2 := by
  have hperiods : s.release.aligner.openRange = s.releaseIfDue.aligner.openRange := by simp [State.release]
  rw [hperiods]
  obtain ⟨hgaps, -⟩ := hs.1
  unfold State.releaseIfDue
  match hrange : s.aligner.openRange with
  | [] => split <;> simp [hrange]
  | [m] => split <;> simp [hrange, State.releaseSet_aligner]
  | [m, k] => split <;> simp [hrange, State.releaseSet_aligner]
  | [j, m, k] =>
    rw [hrange] at hgaps
    obtain ⟨rfl, rfl, -⟩ := hgaps
    have hdeadline : j + 2 = j + 1 + 1 := by bv_omega
    have hdue : s.releaseDue = true := by
      simp only [State.releaseDue, hrange, hdeadline]
      simp
    simp [hdue, State.releaseSet_aligner]
  | _ :: _ :: _ :: _ :: _ =>
    rw [hrange] at hgaps
    exact hgaps.elim

/-- The next index joins a range of at most two. -/
theorem State.issueStrobe_rangeLaw {s : State} (hs : s.RangeLaw) (hlength : s.aligner.openRange.length ≤ 2) :
    s.issueStrobe.RangeLaw := by
  obtain ⟨⟨hgaps, -⟩, hqueues⟩ := hs
  have hnext : s.issueStrobe.aligner.nextIndex = s.aligner.nextIndex + 1 := by simp [State.issueStrobe]
  have hrange : s.issueStrobe.aligner.openRange = s.aligner.openRange ++ [s.aligner.nextIndex] := by
    simp [State.issueStrobe]
  have hlatest : s.issueStrobe.aligner.latest = some s.aligner.nextIndex := by simp [State.issueStrobe]
  have holdest : s.issueStrobe.aligner.oldest = s.aligner.oldest := by
    unfold Aligner.oldest
    rw [hrange]
    cases s.aligner.openRange <;> rfl
  refine ⟨⟨?_, ?_⟩, fun x => ?_⟩
  · rw [hrange, hnext]
    match hold : s.aligner.openRange with
    | [] => rfl
    | [m] => rw [hold] at hgaps; exact ⟨hgaps, rfl⟩
    | [m, k] => rw [hold] at hgaps; exact ⟨hgaps.1, hgaps.2, rfl⟩
    | _ :: _ :: _ :: _ => simp [hold] at hlength
  · rw [hrange, hlatest]
    simp
  · have hlane : (s.issueStrobe.lanes.get x).queue = (s.lanes.get x).queue
        ∧ (s.issueStrobe.lanes.get x).state = (s.lanes.get x).state := by
      cases x <;> simp [State.issueStrobe, Lane.strobe]
    obtain ⟨horder, hopen, hempty⟩ := hqueues x
    unfold Lane.queueLaw
    rw [holdest, hlane.1, hlane.2, hrange]
    exact ⟨horder, fun f hf => List.mem_append_left _ (hopen f hf), hempty⟩

end Sys2Proof.Machine

/-! # Every operation keeps the law of the range and the queues -/

namespace Sys2Proof.Machine

/-! ### Installs (R20) -/

/-- A lane that an install enables was OFF, and one that it disables is emptied. -/
theorem Lane.install_queueLaw {l : Lane} {al : Aligner} (hl : l.queueLaw al) (x : Phase) (was now : Bool)
    (exit : StrobeIndex) : (l.install x was now exit).queueLaw al := by
  unfold Lane.install
  split
  · split
    · rename_i hoff
      obtain ⟨-, -, hempty⟩ := hl
      exact Lane.queueLaw_of_empty (by simp [hempty (by rw [hoff]; rfl)])
    · exact hl
  · split
    · exact Lane.queueLaw_of_empty rfl
    · exact hl

theorem State.installAtLane_rangeLaw {s : State} (hs : s.RangeLaw) (was restart : Bool) (x : Phase) :
    (s.installAtLane was restart x).RangeLaw := by
  unfold State.installAtLane
  dsimp only
  generalize hended : (if (was && !s.enabled x) = true then s.endLaneTest x else s) = u
  have hu : u.RangeLaw := by
    rw [← hended]
    split
    · exact hs.congr (by simp) (by simp) (by simp) (by simp)
    · exact hs
  have hlane := Lane.install_queueLaw (hu.2 x) x was (s.enabled x) u.aligner.latestIndex
  refine State.changeLane_rangeLaw hu ?_
  split
  · exact hlane.of_queue (by simp) (by simp)
  · exact hlane

theorem State.installMeter_rangeLaw {s : State} (hs : s.RangeLaw) (old : Option Meter) (new : Meter) (b : Band) :
    (s.installMeter old new b).RangeLaw := by
  have hlanes := State.installAtLane_rangeLaw (State.installAtLane_rangeLaw (State.installAtLane_rangeLaw hs
    (enabledIn old .a) (changesStuckLimit old new) .a) (enabledIn old .b) (changesStuckLimit old new) .b)
    (enabledIn old .c) (changesStuckLimit old new) .c
  exact hlanes.congr (by simp [State.installMeter]) (by simp [State.installMeter]) (by simp [State.installMeter])
    (by simp [State.installMeter])

theorem State.install_rangeLaw {s : State} (hs : s.RangeLaw) (w : TableChoice) (b : Band) :
    (s.install w b).RangeLaw := by
  unfold State.install
  dsimp only
  generalize hu : (if w.cal = true then ({ s with tables := s.tables.activate w, history := .all none } : State)
      else { s with tables := s.tables.activate w }) = u
  have hcal : u.RangeLaw := by
    rw [← hu]
    split <;> exact hs
  generalize hv : (if w.meter = true then u.installMeter s.tables.meterActive u.tables.meterPending.clamped b
      else u) = v
  have hmeter : v.RangeLaw := by
    rw [← hv]
    split
    · exact State.installMeter_rangeLaw hcal _ _ _
    · exact hcal
  have hevaluated : (if (w.meter || w.calendar) = true then v.evaluate else v).RangeLaw := by
    split
    · exact hmeter.congr (by simp) (by simp) (by simp) (by simp)
    · exact hmeter
  exact hevaluated.congr (by simp) (by simp) (by simp) (by simp)

/-! ### Closes and the engine's states -/

theorem State.closeWindow_rangeLaw {s : State} (hs : s.RangeLaw) (w : Window) (o : Opening) (cause : CloseCause) :
    (s.closeWindow w o cause).RangeLaw := by
  have hclosed : (s.closeStages w o cause).RangeLaw := hs.congr (by simp) (by simp) (by simp) (by simp)
  unfold State.closeWindow
  dsimp only
  split
  · exact State.install_rangeLaw hclosed _ _
  · exact hclosed

theorem State.processSet_rangeLaw {s : State} (hs : s.RangeLaw) (c : CompletedSet) : (s.processSet c).RangeLaw := by
  have hinto (w : Window) (m : Meter) : (s.processInto w m c).RangeLaw := by
    unfold State.processInto
    dsimp only
    split
    · exact hs.congr (by simp) (by simp) (by simp) (by simp)
    · split
      · refine State.closeWindow_rangeLaw ?_ _ _ _
        exact hs.congr (by simp) (by simp) (by simp) (by simp)
      · exact hs.congr (by simp) (by simp) (by simp) (by simp)
  unfold State.processSet
  split
  · exact hinto _ _
  · exact hinto _ _
  · exact hs

theorem State.requestClose_rangeLaw {s : State} (hs : s.RangeLaw) (cause : ForcedCause) :
    (s.requestClose cause).RangeLaw := by
  unfold State.requestClose
  split
  · exact hs
  · exact hs
  · split
    · exact State.closeWindow_rangeLaw hs _ _ _
    · exact hs.congr (by simp) (by simp) (by simp) (by simp)

theorem State.stopMetering_rangeLaw {s : State} (hs : s.RangeLaw) : s.stopMetering.RangeLaw := by
  have henter {u : State} (hu : u.RangeLaw) : u.enterConfig.RangeLaw :=
    hu.congr (by simp) (by simp) (by simp) (by simp)
  have hevaluate {u : State} (hu : u.RangeLaw) : u.evaluate.RangeLaw :=
    hu.congr (by simp) (by simp) (by simp) (by simp)
  unfold State.stopMetering
  split
  · split
    · exact hevaluate (henter (State.closeWindow_rangeLaw hs _ _ _))
    · exact hevaluate (State.install_rangeLaw (henter hs) _ _)
  · exact hevaluate (State.install_rangeLaw (henter hs) _ _)

/-- ENGINE RESET empties the range and every queue (R21, R37). -/
theorem State.engineReset_rangeLaw (s : State) : s.engineReset.RangeLaw := by
  have hrange : s.engineReset.aligner.openRange = [] := by
    simp [State.engineReset, State.resetMonitor, Aligner.reset]
  have hqueue (x : Phase) : (s.engineReset.lanes.get x).queue = [] := by
    cases x <;> simp [State.engineReset, State.resetMonitor, Lane.reset]
  refine ⟨?_, fun x => Lane.queueLaw_of_empty (hqueue x)⟩
  simp [Aligner.rangeLaw, hrange]

/-! ### The commands -/

theorem owner_rangeLaw (c : Instr) (p : List Byte) {s : State} (hwrites : c.writes = true) (hs : s.RangeLaw) :
    (c.owner p s).state.RangeLaw := by
  cases c with
  | start =>
    simp only [Instr.owner, start]
    repeat' split
    · exact hs
    · exact hs
    · exact hs.congr (by simp) (by simp) (by simp) (by simp)
  | stop =>
    simp only [Instr.owner, stop]
    split
    · exact hs
    · exact State.stopMetering_rangeLaw hs
  | resume =>
    simp only [Instr.owner, resume]
    split
    · exact hs.congr (by simp) (by simp) (by simp) (by simp)
    · exact hs
  | engineReset => exact s.engineReset_rangeLaw
  | snapshot => exact hs
  | preload =>
    simp only [Instr.owner, preload]
    repeat' split
    all_goals exact hs
  | setTime =>
    simp only [Instr.owner, setTime]
    split
    · exact hs
    · exact hs.congr (by simp [State.loadTime]) (by simp [State.loadTime]) (by simp [State.loadTime])
        (by simp [State.loadTime])
  | addSpecialDay =>
    have hedit (l : List SpecialDay) : (s.editDays l).RangeLaw :=
      hs.congr (by simp [State.editDays]) (by simp [State.editDays]) (by simp [State.editDays]) (by simp [State.editDays])
    simp only [Instr.owner, addSpecialDay]
    repeat' split
    · exact hs
    · exact hs
    · exact hedit _
    · exact hs
    · exact hedit _
  | removeSpecialDay =>
    simp only [Instr.owner, removeSpecialDay]
    split
    · exact hs.congr (by simp [State.editDays]) (by simp [State.editDays]) (by simp [State.editDays])
        (by simp [State.editDays])
    · exact hs
  | resetDemand =>
    simp only [Instr.owner, resetDemand, State.okay_state, State.restartOneShot]
    repeat' split
    all_goals exact hs
  | writeTable =>
    simp only [Instr.owner, writeTable, writeTrigger, writeStaged]
    repeat' split
    all_goals exact hs
  | applyTable =>
    have happly (name : TableName) (crc : BitVec 16) : (applyStaged name crc s).state.RangeLaw := by
      unfold applyStaged acceptApply
      dsimp only
      split
      · exact hs
      split
      · exact hs
      split
      · exact hs
      split
      · exact State.install_rangeLaw hs _ _
      · exact hs
    simp only [Instr.owner, applyTable]
    split
    · exact hs
    · exact hs
    · exact happly _ _
    · exact happly _ _
    · exact happly _ _
  | cancelApply =>
    simp only [Instr.owner, cancelApply, cancelStaged]
    repeat' split
    all_goals exact hs
  | clearFlags =>
    simp only [Instr.owner, clearFlags]
    split <;> exact hs
  | setMask =>
    simp only [Instr.owner, setMask]
    split <;> exact hs
  | captureArm =>
    simp only [Instr.owner, captureArm]
    repeat' split
    all_goals exact hs
  | captureTrigger =>
    simp only [Instr.owner, captureTrigger]
    split <;> exact hs
  | captureStop =>
    simp only [Instr.owner, captureStop]
    split <;> exact hs
  | linkTestStart =>
    simp only [Instr.owner, linkTestStart]
    repeat' split
    · exact hs
    · exact hs
    · exact hs
    · rename_i t _ _
      refine State.changeLane_rangeLaw (x := t.lane) ?_ (Lane.queueLaw_of_empty (by simp [Lane.enterTest]))
      exact hs
  | linkTestStop =>
    simp only [Instr.owner, linkTestStop]
    split
    · exact hs
    rename_i x _
    split
    · rename_i htest
      obtain ⟨-, -, hempty⟩ := hs.2 x
      have hqueue : (s.lanes.get x).queue = [] := hempty (by rw [htest]; rfl)
      have hended : (s.endLaneTest x).RangeLaw := hs.congr (by simp) (by simp) (by simp) (by simp)
      refine State.changeLane_rangeLaw (x := x) hended (Lane.queueLaw_of_empty ?_)
      unfold Lane.leaveTest
      dsimp only
      split <;> simp [hqueue]
    · exact hs
  | _ => exact Bool.noConfusion hwrites

/-- Every operation keeps the law: the range grows at a strobe and shrinks at a release, the queues with it. -/
theorem State.RangeLaw.kept : Kept State.RangeLaw where
  pending _ _ hs := hs
  powerOnReset s _ := by
    refine ⟨⟨trivial, fun n hn => by simp [State.powerOnReset, State.reset, alignerAtPowerOn] at hn⟩, fun x => ?_⟩
    exact Lane.queueLaw_of_empty (by cases x <;> rfl)
  resetEnds _ hs := hs
  periodEnd _ x hs := State.takePeriodEnd_rangeLaw hs x
  captureTerminal _ hs := hs.congr (by simp) (by simp) (by simp) (by simp)
  timebaseEnd _ x hs := hs.congr (by simp) (by simp) (by simp) (by simp)
  terminal _ hs := hs.congr (by simp) (by simp) (by simp) (by simp)
  rollover _ hs := hs.congr (by simp) (by simp) (by simp) (by simp)
  strobe s hs := by
    have hexpiry : s.takeExpiry.RangeLaw := hs.congr (by simp) (by simp) (by simp) (by simp)
    have htwo := State.release_rangeLaw (State.release_rangeLaw hexpiry)
    exact State.issueStrobe_rangeLaw (State.release_rangeLaw htwo) (State.release_openRange_length htwo)
  receiveFrame _ x f hs := State.receiveFrame_rangeLaw hs x f
  releaseIfDue _ hs := State.releaseIfDue_rangeLaw hs
  takeReleased _ hs := hs.congr (by simp) (by simp) (by simp) (by simp)
  takeCompleted s hs := by
    unfold State.takeCompleted
    split
    · exact hs
    · refine State.processSet_rangeLaw ?_ _
      exact hs.congr (by simp) (by simp) (by simp) (by simp)
  takeRequest s c hs := by
    unfold State.takeRequest
    split
    · refine State.requestClose_rangeLaw ?_ c
      exact hs
    · exact hs
  takeCredit _ hs := hs.congr (by simp) (by simp) (by simp) (by simp)
  takeNotice _ hs := hs.congr (by simp) (by simp) (by simp) (by simp)
  takeExpiry _ hs := hs.congr (by simp) (by simp) (by simp) (by simp)
  downlinkFrame _ f hs := hs.congr (by simp) (by simp) (by simp) (by simp)
  downlinkIdleLine _ hs := hs.congr (by simp) (by simp) (by simp) (by simp)
  choose _ hs := hs.congr (by simp) (by simp) (by simp) (by simp)
  withCommands _ _ _ _ hs := hs
  respond _ _ _ _ _ hs := hs
  owner c p _ hwrites hs := owner_rangeLaw c p hwrites hs

/-- Settles O9: the law is kept by every operation, so by every step. -/
theorem everyStepKeepsTheRangeLaw : Obligations.EveryStepKeepsTheRangeLaw :=
  fun _ _ => State.RangeLaw.kept.step

end Sys2Proof.Machine

/-! # The table store: structural faults and the clamped image (R134, R135) -/

namespace Sys2Proof.Machine

/-! ### The first fault of a list -/

section FirstFault

variable {α : Type} (bad : Nat → α → Option FaultKind)

theorem firstFault_eq_none_iff (i : Nat) (l : List α) :
    firstFault bad i l = none ↔ ∀ n x, l[n]? = some x → bad (i + n) x = none := by
  induction l generalizing i with
  | nil => simp [firstFault]
  | cons y rest ih =>
    rw [firstFault]
    cases hbad : bad i y with
    | some k =>
      refine ⟨fun h => absurd h (by simp), fun h => ?_⟩
      exact absurd (h 0 y rfl) (by simp [hbad])
    | none =>
      rw [ih]
      constructor
      · intro h n x hx
        cases n with
        | zero => simp_all
        | succ n => simpa [Nat.add_assoc, Nat.add_comm 1 n] using h n x hx
      · intro h n x hx
        simpa [Nat.add_assoc, Nat.add_comm 1 n] using h (n + 1) x hx

theorem firstFault_eq_some_iff (i m : Nat) (k : FaultKind) (l : List α) :
    firstFault bad i l = some (m, k) ↔
      ∃ n x, m = i + n ∧ l[n]? = some x ∧ bad m x = some k ∧ ∀ j < n, ∀ y, l[j]? = some y → bad (i + j) y = none := by
  induction l generalizing i with
  | nil => simp [firstFault]
  | cons y rest ih =>
    rw [firstFault]
    cases hbad : bad i y with
    | some kind =>
      constructor
      · intro h
        cases h
        exact ⟨0, y, rfl, rfl, hbad, fun j hj => absurd hj (Nat.not_lt_zero j)⟩
      · rintro ⟨n, x, rfl, hx, hk, hbefore⟩
        cases n with
        | zero =>
          obtain rfl : y = x := Option.some.inj hx
          obtain rfl : kind = k := Option.some.inj (hbad.symm.trans hk)
          rfl
        | succ n => exact absurd (hbefore 0 (Nat.succ_pos n) y rfl) (by simp [hbad])
    | none =>
      rw [ih]
      constructor
      · rintro ⟨n, x, rfl, hx, hk, hbefore⟩
        refine ⟨n + 1, x, by omega, hx, hk, fun j hj z hz => ?_⟩
        cases j with
        | zero => simp_all
        | succ j => simpa [Nat.add_assoc, Nat.add_comm 1 j] using hbefore j (by omega) z hz
      · rintro ⟨n, x, rfl, hx, hk, hbefore⟩
        cases n with
        | zero =>
          obtain rfl : y = x := Option.some.inj hx
          simp [hbad] at hk
        | succ n =>
          refine ⟨n, x, by omega, hx, hk, fun j hj z hz => ?_⟩
          simpa [Nat.add_assoc, Nat.add_comm 1 j] using hbefore (j + 1) (by omega) z hz

end FirstFault

/-! ### CAL and METER copies -/

theorem calFault_eq_none_iff (n : Nat) (e : CalEntry) : calFault n e = none ↔ e.polarity ≤ 1 := by
  simp [calFault]

theorem calFault_eq_some_iff (n : Nat) (e : CalEntry) (k : FaultKind) :
    calFault n e = some k ↔ k = .badValue ∧ 1 < e.polarity := by
  simp [calFault, and_comm, eq_comm]

/-- The entries of a CAL copy by their number. -/
theorem PerPhase.forall_toList_iff {α : Type} (t : PerPhase α) (P : Nat → α → Prop) :
    (∀ n e, t.toList[n]? = some e → P n e) ↔ ∀ x, P (phaseNumber x) (t.get x) := by
  constructor
  · intro h x
    cases x <;> exact h _ _ rfl
  · intro h n e he
    match n, he with
    | 0, rfl => exact h .a
    | 1, rfl => exact h .b
    | 2, rfl => exact h .c

theorem Tables.pendingFault_cal_none_iff (t : Tables) :
    t.pendingFault .cal = none ↔ ∀ x, (t.calPending.get x).polarity ≤ 1 := by
  simp only [pendingFault, firstFault_eq_none_iff, calFault_eq_none_iff]
  exact t.calPending.forall_toList_iff fun _ e => e.polarity ≤ 1

theorem Tables.pendingFault_cal_some_iff (t : Tables) (i : Nat) (k : FaultKind) :
    t.pendingFault .cal = some (i, k) ↔
      k = .badValue ∧ ∃ x, i = phaseNumber x ∧ 1 < (t.calPending.get x).polarity
        ∧ ∀ y, phaseNumber y < i → (t.calPending.get y).polarity ≤ 1 := by
  have hget (x : Phase) : t.calPending.toList[phaseNumber x]? = some (t.calPending.get x) := by cases x <;> rfl
  rw [pendingFault, firstFault_eq_some_iff]
  constructor
  · rintro ⟨n, e, rfl, he, hk, hbefore⟩
    obtain ⟨rfl, hpolarity⟩ := (calFault_eq_some_iff _ _ _).mp hk
    refine ⟨rfl, ?_⟩
    have hx : ∃ x, n = phaseNumber x := by
      have hn : n < 3 := (List.getElem?_eq_some_iff.mp he).1
      exact match n, hn with
        | 0, _ => ⟨.a, rfl⟩
        | 1, _ => ⟨.b, rfl⟩
        | 2, _ => ⟨.c, rfl⟩
    obtain ⟨x, rfl⟩ := hx
    obtain rfl : t.calPending.get x = e := Option.some.inj ((hget x).symm.trans he)
    refine ⟨x, Nat.zero_add _, hpolarity, fun y hy => ?_⟩
    exact (calFault_eq_none_iff _ _).mp (hbefore _ (by omega) _ (hget y))
  · rintro ⟨rfl, x, rfl, hpolarity, hbefore⟩
    refine ⟨phaseNumber x, _, (Nat.zero_add _).symm, hget x, (calFault_eq_some_iff _ _ _).mpr ⟨rfl, hpolarity⟩, ?_⟩
    intro j hj e he
    have hy : ∃ y, j = phaseNumber y := by
      cases x <;> simp only [phaseNumber] at hj
      · omega
      · exact ⟨.a, by simp only [phaseNumber]; omega⟩
      · obtain rfl | rfl : j = 0 ∨ j = 1 := by omega
        · exact ⟨.a, rfl⟩
        · exact ⟨.b, rfl⟩
    obtain ⟨y, rfl⟩ := hy
    obtain rfl : t.calPending.get y = e := Option.some.inj ((hget y).symm.trans he)
    exact (calFault_eq_none_iff _ _).mpr (hbefore y hj)

/-- The fault of a METER field says that the field is outside its enumeration. -/
theorem Meter.meterFault_cases (m : Meter) {n v : Nat} (h : m.fields[n]? = some v) :
    (meterFault n v = none ∧ ¬ m.BadField n) ∨ (meterFault n v = some .badValue ∧ m.BadField n) := by
  have hn : n < 21 := (List.getElem?_eq_some_iff.mp h).1
  interval_cases n <;> obtain rfl := Option.some.inj h <;> simp [meterFault, BadField] <;> omega

theorem Meter.meterFault_eq_none_iff (m : Meter) {n v : Nat} (h : m.fields[n]? = some v) :
    meterFault n v = none ↔ ¬ m.BadField n := by
  rcases m.meterFault_cases h with ⟨hfault, hbad⟩ | ⟨hfault, hbad⟩ <;> simp [hfault, hbad]

theorem Meter.meterFault_eq_some_iff (m : Meter) {n v : Nat} (h : m.fields[n]? = some v) (k : FaultKind) :
    meterFault n v = some k ↔ k = .badValue ∧ m.BadField n := by
  rcases m.meterFault_cases h with ⟨hfault, hbad⟩ | ⟨hfault, hbad⟩ <;> simp [hfault, hbad, eq_comm]

theorem Meter.BadField.lt {m : Meter} {i : Nat} (h : m.BadField i) : i < 21 := by
  unfold BadField at h
  omega

theorem Meter.exists_field (m : Meter) {i : Nat} (h : i < 21) : ∃ v, m.fields[i]? = some v :=
  ⟨m.fields[i]'h, List.getElem?_eq_getElem h⟩

theorem Tables.pendingFault_meter_some_iff (t : Tables) (i : Nat) (k : FaultKind) :
    t.pendingFault .meter = some (i, k) ↔
      k = .badValue ∧ t.meterPending.BadField i ∧ ∀ j < i, ¬ t.meterPending.BadField j := by
  rw [pendingFault, firstFault_eq_some_iff]
  constructor
  · rintro ⟨n, v, hn, hv, hk, hbefore⟩
    obtain rfl : i = n := hn.trans (Nat.zero_add n)
    obtain ⟨rfl, hbad⟩ := (t.meterPending.meterFault_eq_some_iff hv k).mp hk
    refine ⟨rfl, hbad, fun j hj => ?_⟩
    obtain ⟨w, hw⟩ := t.meterPending.exists_field (hj.trans hbad.lt)
    have hnone := hbefore j hj w hw
    rw [Nat.zero_add] at hnone
    exact (t.meterPending.meterFault_eq_none_iff hw).mp hnone
  · rintro ⟨rfl, hbad, hbefore⟩
    obtain ⟨v, hv⟩ := t.meterPending.exists_field hbad.lt
    refine ⟨i, v, (Nat.zero_add i).symm, hv, (t.meterPending.meterFault_eq_some_iff hv _).mpr ⟨rfl, hbad⟩, ?_⟩
    intro j hj w hw
    rw [Nat.zero_add]
    exact (t.meterPending.meterFault_eq_none_iff hw).mpr (hbefore j hj)

/-- No field of the METER copy lies outside its enumeration. -/
theorem Meter.forall_not_badField_iff (m : Meter) :
    (∀ i, ¬ m.BadField i) ↔ 1 ≤ m.lanes ∧ m.lanes ≤ 7 ∧ m.netMode ≤ 2 ∧ m.subst ≤ 2 ∧ m.failsafeBand ≤ 8
      ∧ m.unsetBand ≤ 7 ∧ m.demandMode ≤ 3 ∧ m.reports ≤ 1 := by
  constructor
  · intro h
    have hlanes : 1 ≤ m.lanes ∧ m.lanes ≤ 7 := by simpa [BadField, Nat.one_le_iff_ne_zero] using h 0
    have hnet : m.netMode ≤ 2 := by simpa [BadField] using h 1
    have hsubst : m.subst ≤ 2 := by simpa [BadField] using h 8
    have hfailsafe : m.failsafeBand ≤ 8 := by simpa [BadField] using h 16
    have hunset : m.unsetBand ≤ 7 := by simpa [BadField] using h 17
    have hdemand : m.demandMode ≤ 3 := by simpa [BadField] using h 18
    have hreports : m.reports ≤ 1 := by simpa [BadField] using h 20
    exact ⟨hlanes.1, hlanes.2, hnet, hsubst, hfailsafe, hunset, hdemand, hreports⟩
  · rintro ⟨hlow, hhigh, hnet, hsubst, hfailsafe, hunset, hdemand, hreports⟩ i hbad
    rcases hbad with ⟨-, h⟩ | ⟨-, h⟩ | ⟨-, h⟩ | ⟨-, h⟩ | ⟨-, h⟩ | ⟨-, h⟩ | ⟨-, h⟩ <;> omega

theorem Tables.pendingFault_meter_none_iff (t : Tables) :
    t.pendingFault .meter = none ↔ ∀ i, ¬ t.meterPending.BadField i := by
  rw [pendingFault, firstFault_eq_none_iff]
  constructor
  · intro h i hbad
    obtain ⟨v, hv⟩ := t.meterPending.exists_field hbad.lt
    have hnone := h i v hv
    rw [Nat.zero_add] at hnone
    exact (t.meterPending.meterFault_eq_none_iff hv).mp hnone hbad
  · intro h n v hv
    rw [Nat.zero_add]
    exact (t.meterPending.meterFault_eq_none_iff hv).mpr (h n)

/-! ### Switch points -/

/-- Switch point `i` of a list has a structural fault of the kind `k`: the part of `CalendarTable.FaultAt` about points. -/
def PointFaultAt (points : List SwitchPoint) (i : Nat) (k : FaultKind) : Prop :=
  ∃ p, points[i]? = some p ∧ p.minute ≠ 65535
    ∧ let bad := 1440 ≤ p.minute ∨ 7 < p.band
      let late := ∃ j q, j < i ∧ j / 12 = i / 12 ∧ points[j]? = some q ∧ q.minute ≠ 65535 ∧ p.minute ≤ q.minute
        ∧ ∀ n r, j < n → n < i → points[n]? = some r → r.minute = 65535
      let gap := ∃ j q, j < i ∧ j / 12 = i / 12 ∧ points[j]? = some q ∧ q.minute = 65535
      (k = .badValue ∧ bad) ∨ (k = .outOfOrder ∧ ¬ bad ∧ late) ∨ (k = .emptyNotTrailing ∧ ¬ bad ∧ ¬ late ∧ gap)

theorem PointFaultAt.lt {points : List SwitchPoint} {i : Nat} {k : FaultKind} (h : PointFaultAt points i k) :
    i < points.length := by
  obtain ⟨p, hp, -⟩ := h
  exact (List.getElem?_eq_some_iff.mp hp).1

/-- What the walk over the switch points knows before point `i`: the minute of the last used point of its profile, and whether
an empty point of it stands before. -/
structure PointsBefore (points : List SwitchPoint) (i : Nat) (last : Option Nat) (gap : Bool) : Prop where
  last : ∀ m, last = some m ↔ ∃ j q, j < i ∧ j / 12 = i / 12 ∧ points[j]? = some q ∧ q.minute ≠ 65535 ∧ q.minute = m
    ∧ ∀ n r, j < n → n < i → points[n]? = some r → r.minute = 65535
  gap : gap = true ↔ ∃ j q, j < i ∧ j / 12 = i / 12 ∧ points[j]? = some q ∧ q.minute = 65535

/-- At the beginning of a profile nothing stands before. -/
theorem PointsBefore.start {points : List SwitchPoint} {i : Nat} (h : i % 12 = 0) : PointsBefore points i none false := by
  refine ⟨fun m => ⟨fun hm => absurd hm (by simp), ?_⟩, ⟨fun hgap => absurd hgap (by simp), ?_⟩⟩
  · rintro ⟨j, q, hj, hprofile, -⟩
    omega
  · rintro ⟨j, q, hj, hprofile, -⟩
    omega

/-- Behind an empty point a gap stands, and the last used point is the same. -/
theorem PointsBefore.empty {points : List SwitchPoint} {i : Nat} {last : Option Nat} {gap : Bool} {p : SwitchPoint}
    (h : PointsBefore points i last gap) (hp : points[i]? = some p) (hempty : p.minute = 65535)
    (hprofile : (i + 1) % 12 ≠ 0) : PointsBefore points (i + 1) last true := by
  have hsame : (i + 1) / 12 = i / 12 := by omega
  refine ⟨fun m => ?_, ⟨fun _ => ⟨i, p, Nat.lt_succ_self i, hsame.symm, hp, hempty⟩, fun _ => rfl⟩⟩
  rw [h.last m, hsame]
  constructor
  · rintro ⟨j, q, hj, hprof, hq, hused, hm, hbetween⟩
    refine ⟨j, q, by omega, hprof, hq, hused, hm, fun n r hjn hn hr => ?_⟩
    rcases Nat.lt_succ_iff_lt_or_eq.mp hn with hlt | rfl
    · exact hbetween n r hjn hlt hr
    · rwa [← Option.some.inj (hp.symm.trans hr)]
  · rintro ⟨j, q, hj, hprof, hq, hused, hm, hbetween⟩
    have hji : j ≠ i := by
      rintro rfl
      exact hused (by rwa [← Option.some.inj (hp.symm.trans hq)])
    exact ⟨j, q, by omega, hprof, hq, hused, hm, fun n r hjn hn hr => hbetween n r hjn (by omega) hr⟩

/-- Behind a used point that point is the last one, and no gap has joined. -/
theorem PointsBefore.used {points : List SwitchPoint} {i : Nat} {last : Option Nat} {gap : Bool} {p : SwitchPoint}
    (h : PointsBefore points i last gap) (hp : points[i]? = some p) (hused : p.minute ≠ 65535)
    (hprofile : (i + 1) % 12 ≠ 0) : PointsBefore points (i + 1) (some p.minute) gap := by
  have hsame : (i + 1) / 12 = i / 12 := by omega
  refine ⟨fun m => ⟨?_, ?_⟩, ?_⟩
  · rintro hm
    exact ⟨i, p, Nat.lt_succ_self i, hsame.symm, hp, hused, Option.some.inj hm, fun n r hin hn _ => by omega⟩
  · rintro ⟨j, q, hj, -, hq, -, hm, hbetween⟩
    have hji : j = i := by
      by_contra hne
      exact hused (hbetween i p (by omega) (Nat.lt_succ_self i) hp)
    subst hji
    rw [Option.some.inj (hp.symm.trans hq), hm]
  · rw [h.gap, hsame]
    constructor
    · rintro ⟨j, q, hj, hprof, hq, hempty⟩
      exact ⟨j, q, by omega, hprof, hq, hempty⟩
    · rintro ⟨j, q, hj, hprof, hq, hempty⟩
      have hji : j ≠ i := by
        rintro rfl
        exact hused (by rwa [Option.some.inj (hp.symm.trans hq)])
      exact ⟨j, q, by omega, hprof, hq, hempty⟩

/-- The fault that the walk finds at point `i` is the one that stands there. -/
theorem PointsBefore.pointFault_iff {points : List SwitchPoint} {i : Nat} {last : Option Nat} {gap : Bool}
    {p : SwitchPoint} (h : PointsBefore points i last gap) (hp : points[i]? = some p) (k : FaultKind) :
    pointFault last gap p = some k ↔ PointFaultAt points i k := by
  have hlate : (∃ j q, j < i ∧ j / 12 = i / 12 ∧ points[j]? = some q ∧ q.minute ≠ 65535 ∧ p.minute ≤ q.minute
      ∧ ∀ n r, j < n → n < i → points[n]? = some r → r.minute = 65535)
        ↔ last.any (fun m => decide (p.minute ≤ m)) = true := by
    constructor
    · rintro ⟨j, q, hj, hprof, hq, hused, hle, hbetween⟩
      have hlast := (h.last q.minute).mpr ⟨j, q, hj, hprof, hq, hused, rfl, hbetween⟩
      simpa [hlast] using hle
    · intro hany
      obtain ⟨m, hm, hle⟩ : ∃ m, last = some m ∧ p.minute ≤ m := by
        cases hlast : last with
        | none => simp [hlast] at hany
        | some m => exact ⟨m, rfl, by simpa [hlast] using hany⟩
      obtain ⟨j, q, hj, hprof, hq, hused, rfl, hbetween⟩ := (h.last m).mp hm
      exact ⟨j, q, hj, hprof, hq, hused, hle, hbetween⟩
  simp only [PointFaultAt, hp, Option.some.injEq, exists_eq_left', hlate, ← h.gap]
  unfold pointFault
  by_cases hempty : p.minute = 65535
  · simp [hempty]
  · by_cases hbad : 1440 ≤ p.minute ∨ 7 < p.band
    · rw [if_neg hempty, if_pos hbad]
      simp [hempty, hbad, @eq_comm _ k]
    · rw [if_neg hempty, if_neg hbad]
      by_cases hany : last.any (fun m => decide (p.minute ≤ m)) = true
      · simp [hempty, hbad, hany, @eq_comm _ k]
      · by_cases hgap : gap = true <;> simp [hempty, hbad, hany, hgap, @eq_comm _ k]

end Sys2Proof.Machine

/-! # The CALENDAR copy's faults and the clamped METER image -/

namespace Sys2Proof.Machine

/-! ### The walk over the switch points -/

/-- The walk from point `i` on finds the first faulty point from there. -/
theorem pointsFault_eq_some_iff {points : List SwitchPoint} (l : List SwitchPoint) (i : Nat) (last : Option Nat)
    (gap : Bool) (hrest : points.drop i = l)
    (hbefore : PointsBefore points i (if i % 12 = 0 then none else last) (if i % 12 = 0 then false else gap))
    (n : Nat) (k : FaultKind) :
    pointsFault i last gap l = some (n, k) ↔
      i ≤ n ∧ PointFaultAt points n k ∧ ∀ j, i ≤ j → j < n → ∀ kind, ¬ PointFaultAt points j kind := by
  induction l generalizing i last gap with
  | nil =>
    refine ⟨fun h => absurd h (by simp [pointsFault]), ?_⟩
    rintro ⟨hin, hfault, -⟩
    have hlength := List.drop_eq_nil_iff.mp hrest
    exact absurd hfault.lt (by omega)
  | cons p rest ih =>
    have hp : points[i]? = some p := by
      rw [← Nat.add_zero i, ← List.getElem?_drop, hrest]
      rfl
    have hnext : points.drop (i + 1) = rest := by
      rw [← List.drop_drop, hrest]
      rfl
    have hat := fun kind => hbefore.pointFault_iff hp kind
    have hlater : ∀ (last' : Option Nat) (gap' : Bool),
        PointsBefore points (i + 1) (if (i + 1) % 12 = 0 then none else last') (if (i + 1) % 12 = 0 then false else gap') →
        (∀ kind, ¬ PointFaultAt points i kind) →
        (pointsFault (i + 1) last' gap' rest = some (n, k) ↔
          i ≤ n ∧ PointFaultAt points n k ∧ ∀ j, i ≤ j → j < n → ∀ kind, ¬ PointFaultAt points j kind) := by
      intro last' gap' hbefore' hsound
      rw [ih (i + 1) last' gap' hnext hbefore']
      constructor
      · rintro ⟨hin, hfault, hfirst⟩
        refine ⟨by omega, hfault, fun j hij hjn kind => ?_⟩
        rcases Nat.eq_or_lt_of_le hij with rfl | hlt
        · exact hsound kind
        · exact hfirst j hlt hjn kind
      · rintro ⟨hin, hfault, hfirst⟩
        have hne : i ≠ n := by
          rintro rfl
          exact hsound k hfault
        exact ⟨by omega, hfault, fun j hij hjn kind => hfirst j (by omega) hjn kind⟩
    simp only [pointsFault]
    cases hfault : pointFault (if i % 12 = 0 then none else last) (if i % 12 = 0 then false else gap) p with
    | some kind =>
      have hhere := (hat kind).mp hfault
      constructor
      · intro h
        cases h
        exact ⟨le_rfl, hhere, fun j hij hji => by omega⟩
      · rintro ⟨hin, hfound, hfirst⟩
        obtain rfl : i = n := by
          by_contra hne
          exact hfirst i le_rfl (by omega) kind hhere
        obtain rfl : kind = k := Option.some.inj (hfault.symm.trans ((hat k).mpr hfound))
        rfl
    | none =>
      have hsound : ∀ kind, ¬ PointFaultAt points i kind := fun kind h => by
        rw [← hat kind, hfault] at h
        exact absurd h (by simp)
      by_cases hempty : p.minute = 65535
      · simp only [hempty, if_true]
        refine hlater _ _ ?_ hsound
        split
        · exact PointsBefore.start ‹_›
        · exact hbefore.empty hp hempty ‹_›
      · simp only [hempty, if_false]
        refine hlater _ _ ?_ hsound
        split
        · exact PointsBefore.start ‹_›
        · exact hbefore.used hp hempty ‹_›

theorem pointsFault_start (points : List SwitchPoint) (n : Nat) (k : FaultKind) :
    pointsFault 0 none false points = some (n, k) ↔
      PointFaultAt points n k ∧ ∀ j < n, ∀ kind, ¬ PointFaultAt points j kind := by
  rw [pointsFault_eq_some_iff (points := points) points 0 none false rfl (PointsBefore.start rfl) n k]
  simp

theorem pointsFault_eq_none_iff (points : List SwitchPoint) :
    pointsFault 0 none false points = none ↔ ∀ i k, ¬ PointFaultAt points i k := by
  constructor
  · intro h i
    induction i using Nat.strong_induction_on with
    | _ i ih =>
      intro k hfault
      have hsome := (pointsFault_start points i k).mpr ⟨hfault, ih⟩
      exact absurd (h.symm.trans hsome) (by simp)
  · intro h
    cases hfault : pointsFault 0 none false points with
    | none => rfl
    | some f => exact absurd ((pointsFault_start points f.1 f.2).mp hfault).1 (h _ _)

/-- Without a faulty point, the used points of a profile come first and in the order of their minutes. -/
theorem ascending_of_sound {points : List SwitchPoint} (h : ∀ i k, ¬ PointFaultAt points i k) {i j : Nat}
    {p q : SwitchPoint} (hij : i < j) (hprofile : i / 12 = j / 12) (hp : points[i]? = some p) (hq : points[j]? = some q)
    (hused : q.minute ≠ 65535) : p.minute ≠ 65535 ∧ p.minute < q.minute := by
  have hsound : ¬ (1440 ≤ q.minute ∨ 7 < q.band) := fun hbad => h j .badValue ⟨q, hq, hused, Or.inl ⟨rfl, hbad⟩⟩
  have hontime : ¬ ∃ j' q', j' < j ∧ j' / 12 = j / 12 ∧ points[j']? = some q' ∧ q'.minute ≠ 65535 ∧ q.minute ≤ q'.minute
      ∧ ∀ n r, j' < n → n < j → points[n]? = some r → r.minute = 65535 :=
    fun hlate => h j .outOfOrder ⟨q, hq, hused, Or.inr (Or.inl ⟨rfl, hsound, hlate⟩)⟩
  have hnogap : ¬ ∃ j' q', j' < j ∧ j' / 12 = j / 12 ∧ points[j']? = some q' ∧ q'.minute = 65535 :=
    fun hgap => h j .emptyNotTrailing ⟨q, hq, hused, Or.inr (Or.inr ⟨rfl, hsound, hontime, hgap⟩)⟩
  have husedBefore : ∀ n r, n < j → n / 12 = j / 12 → points[n]? = some r → r.minute ≠ 65535 :=
    fun n r hn hprof hr hempty => hnogap ⟨n, r, hn, hprof, hr, hempty⟩
  refine ⟨husedBefore i p hij hprofile hp, ?_⟩
  obtain ⟨m, rfl⟩ : ∃ m, j = m + 1 := ⟨j - 1, by omega⟩
  have hm : m < points.length := by
    have := (List.getElem?_eq_some_iff.mp hq).1
    omega
  have hr : points[m]? = some points[m] := List.getElem?_eq_getElem hm
  have hmprofile : m / 12 = (m + 1) / 12 := by omega
  have hrq : (points[m]).minute < q.minute := by
    by_contra hge
    exact hontime ⟨m, _, Nat.lt_succ_self m, hmprofile, hr, husedBefore m _ (Nat.lt_succ_self m) hmprofile hr,
      Nat.le_of_not_lt hge, fun n r hmn hn _ => by omega⟩
  rcases Nat.lt_succ_iff_lt_or_eq.mp hij with hlt | rfl
  · have hprev := (ascending_of_sound h hlt (hprofile.trans hmprofile.symm) hp hr
      (husedBefore m _ (Nat.lt_succ_self m) hmprofile hr)).2
    omega
  · rwa [Option.some.inj (hp.symm.trans hr)]
termination_by j

theorem forall_not_pointFaultAt_iff (points : List SwitchPoint) :
    (∀ i k, ¬ PointFaultAt points i k) ↔
      (∀ p ∈ points, p.minute = 65535 ∨ (p.minute < 1440 ∧ p.band ≤ 7))
        ∧ ∀ i j p q, i < j → i / 12 = j / 12 → points[i]? = some p → points[j]? = some q → q.minute ≠ 65535 →
            p.minute ≠ 65535 ∧ p.minute < q.minute := by
  constructor
  · intro h
    refine ⟨fun p hp => ?_, fun i j p q hij hprofile hp hq hused => ascending_of_sound h hij hprofile hp hq hused⟩
    obtain ⟨i, hi⟩ := List.mem_iff_getElem?.mp hp
    by_contra hbad
    exact h i .badValue ⟨p, hi, by omega, Or.inl ⟨rfl, by omega⟩⟩
  · rintro ⟨hvalues, horder⟩ i k ⟨p, hp, hused, hfault⟩
    rcases hfault with ⟨-, hbad⟩ | ⟨-, -, j, q, hj, hprofile, hq, hqused, hle, -⟩ | ⟨-, -, -, j, q, hj, hprofile, hq, hempty⟩
    · have hvalue := hvalues p (List.mem_of_getElem? hp)
      omega
    · have hlt := (horder j i q p hj hprofile hq hp hused).2
      omega
    · exact (horder j i q p hj hprofile hq hp hused).1 hempty

/-! ### The week map and the offset -/

theorem weekFault_eq_some_iff (i v : Nat) (k : FaultKind) :
    weekFault i v = some k ↔ k = .badValue ∧ (if i = 103 then 6 else 7) < v := by
  simp [weekFault, and_comm, @eq_comm _ k]

theorem weekFault_eq_none_iff (i v : Nat) : weekFault i v = none ↔ v ≤ if i = 103 then 6 else 7 := by
  simp [weekFault]

/-- Entry `96 + n` of a CALENDAR copy: a day of the week map, or behind them the offset. -/
theorem getElem?_days {t : CalendarTable} (hweek : t.week.length = 7) (n v : Nat) :
    (t.week ++ [t.offset])[n]? = some v ↔ (n < 7 ∧ t.week[n]? = some v) ∨ (n = 7 ∧ v = t.offset) := by
  rw [List.getElem?_append, hweek]
  split
  · simp_all
    omega
  · rcases Nat.lt_or_ge n 8 with hlt | hge
    · obtain rfl : n = 7 := by omega
      simp [eq_comm]
    · rw [List.getElem?_eq_none (by rw [List.length_singleton]; omega)]
      simp only [reduceCtorEq, false_iff]
      omega

theorem CalendarTable.dayFaultAt_iff {t : CalendarTable} (hpoints : t.points.length = 96) (hweek : t.week.length = 7)
    {i : Nat} (hi : 96 ≤ i) (k : FaultKind) :
    t.FaultAt i k ↔ ∃ v, (t.week ++ [t.offset])[i - 96]? = some v ∧ weekFault i v = some k := by
  have hnopoint : t.points[i]? = none := List.getElem?_eq_none (by omega)
  simp only [FaultAt, hnopoint, weekFault_eq_some_iff, getElem?_days hweek]
  constructor
  · rintro (⟨-, rfl, ⟨d, hd, hlt⟩ | ⟨rfl, hlt⟩⟩ | ⟨p, hp, -⟩)
    · have hin := (List.getElem?_eq_some_iff.mp hd).1
      exact ⟨d, Or.inl ⟨by omega, hd⟩, rfl, by rwa [if_neg (by omega)]⟩
    · exact ⟨t.offset, Or.inr ⟨rfl, rfl⟩, rfl, hlt⟩
    · exact absurd hp (by simp)
  · rintro ⟨v, ⟨hlt, hv⟩ | ⟨hseven, rfl⟩, rfl, hbad⟩
    · rw [if_neg (by omega)] at hbad
      exact Or.inl ⟨hi, rfl, Or.inl ⟨v, hv, hbad⟩⟩
    · have hlast : i = 103 := by omega
      rw [if_pos hlast] at hbad
      exact Or.inl ⟨hi, rfl, Or.inr ⟨hlast, hbad⟩⟩

theorem CalendarTable.pointFaultAt_iff {t : CalendarTable} {i : Nat} (hi : i < 96) (k : FaultKind) :
    t.FaultAt i k ↔ PointFaultAt t.points i k :=
  ⟨fun h => h.resolve_left fun h' => absurd h'.1 (by omega), Or.inr⟩

/-- The first fault of a CALENDAR copy stands where no fault stands before it (R134). -/
theorem CalendarTable.fault_eq_some_iff {t : CalendarTable} (hpoints : t.points.length = 96) (hweek : t.week.length = 7)
    (i : Nat) (k : FaultKind) :
    t.fault = some (i, k) ↔ t.FaultAt i k ∧ ∀ j < i, ∀ kind, ¬ t.FaultAt j kind := by
  unfold CalendarTable.fault
  cases hfault : pointsFault 0 none false t.points with
  | some f =>
    obtain ⟨n, kind⟩ := f
    obtain ⟨hat, hfirst⟩ := (pointsFault_start t.points n kind).mp hfault
    have hn : n < 96 := hpoints ▸ hat.lt
    constructor
    · intro h
      cases h
      exact ⟨(pointFaultAt_iff hn _).mpr hat,
        fun j hj kind' h' => hfirst j hj kind' ((pointFaultAt_iff (hj.trans hn) kind').mp h')⟩
    · rintro ⟨hati, hfirsti⟩
      have hin : i ≤ n := by
        by_contra hlt
        exact hfirsti n (by omega) kind ((pointFaultAt_iff hn kind).mpr hat)
      have hpoint : pointsFault 0 none false t.points = some (i, k) := by
        refine (pointsFault_start t.points i k).mpr ⟨(pointFaultAt_iff (by omega) k).mp hati, fun j hj kind' h' => ?_⟩
        exact hfirst j (by omega) kind' h'
      exact hfault.symm.trans hpoint
  | none =>
    have hsound := (pointsFault_eq_none_iff t.points).mp hfault
    simp only [firstFault_eq_some_iff]
    constructor
    · rintro ⟨n, v, rfl, hv, hk, hfirst⟩
      refine ⟨(dayFaultAt_iff hpoints hweek (by omega) k).mpr ⟨v, by rwa [Nat.add_sub_cancel_left], hk⟩, ?_⟩
      intro j hj kind hat
      rcases Nat.lt_or_ge j 96 with hlt | hge
      · exact hsound j kind ((pointFaultAt_iff hlt kind).mp hat)
      · obtain ⟨w, hw, hbad⟩ := (dayFaultAt_iff hpoints hweek hge kind).mp hat
        have hnone := hfirst (j - 96) (by omega) w hw
        rw [Nat.add_sub_cancel' hge, hbad] at hnone
        exact absurd hnone (by simp)
    · rintro ⟨hat, hfirst⟩
      have hi : 96 ≤ i := by
        by_contra hlt
        exact hsound i k ((pointFaultAt_iff (by omega) k).mp hat)
      obtain ⟨v, hv, hk⟩ := (dayFaultAt_iff hpoints hweek hi k).mp hat
      refine ⟨i - 96, v, by omega, hv, hk, fun j hj w hw => ?_⟩
      cases hbad : weekFault (96 + j) w with
      | none => rfl
      | some kind =>
        exact absurd ((dayFaultAt_iff hpoints hweek (by omega) kind).mpr ⟨w, by rwa [Nat.add_sub_cancel_left], hbad⟩)
          (hfirst (96 + j) (by omega) kind)

theorem CalendarTable.fault_eq_none_iff {t : CalendarTable} (hweek : t.week.length = 7) :
    t.fault = none ↔
      (∀ p ∈ t.points, p.minute = 65535 ∨ (p.minute < 1440 ∧ p.band ≤ 7))
        ∧ (∀ i j p q, i < j → i / 12 = j / 12 → t.points[i]? = some p → t.points[j]? = some q → q.minute ≠ 65535 →
            p.minute ≠ 65535 ∧ p.minute < q.minute)
        ∧ (∀ d ∈ t.week, d ≤ 7) ∧ t.offset ≤ 6 := by
  have hdays : firstFault weekFault 96 (t.week ++ [t.offset]) = none ↔ (∀ d ∈ t.week, d ≤ 7) ∧ t.offset ≤ 6 := by
    simp only [firstFault_eq_none_iff, weekFault_eq_none_iff, getElem?_days hweek]
    constructor
    · intro h
      refine ⟨fun d hd => ?_, h 7 _ (Or.inr ⟨rfl, rfl⟩)⟩
      obtain ⟨n, hn⟩ := List.mem_iff_getElem?.mp hd
      have hlt := (List.getElem?_eq_some_iff.mp hn).1
      have hle := h n d (Or.inl ⟨by omega, hn⟩)
      rwa [if_neg (by omega)] at hle
    · rintro ⟨hweekdays, hoffset⟩ n v (⟨hlt, hv⟩ | ⟨rfl, rfl⟩)
      · rw [if_neg (by omega)]
        exact hweekdays v (List.mem_of_getElem? hv)
      · exact hoffset
  rw [← and_assoc, ← forall_not_pointFaultAt_iff, ← pointsFault_eq_none_iff, ← hdays]
  unfold CalendarTable.fault
  cases pointsFault 0 none false t.points <;> simp

/-- Settles O50: the three copies' first faults, each by its own walk over the entries. -/
theorem structureFaultsOfThePendingCopies : Obligations.StructureFaultsOfThePendingCopies :=
  ⟨Tables.pendingFault_cal_some_iff,
    fun t => (t.pendingFault_meter_none_iff).trans t.meterPending.forall_not_badField_iff,
    Tables.pendingFault_meter_some_iff,
    fun _ i k hpoints hweek => CalendarTable.fault_eq_some_iff hpoints hweek i k,
    fun _ hweek => CalendarTable.fault_eq_none_iff hweek⟩

/-! ### The clamped image of a METER copy -/

theorem divisorBelow_le (n : Nat) : divisorBelow n ≤ max 1 n := by
  induction n with
  | zero => decide
  | succ n ih =>
    rw [divisorBelow]
    split <;> omega

theorem divisorBelow_divides (n : Nat) : 1440 % divisorBelow n = 0 := by
  induction n with
  | zero => rfl
  | succ n ih =>
    rw [divisorBelow]
    split
    · assumption
    · exact ih

/-- No divisor of 1440 that is within the bound is larger. -/
theorem le_divisorBelow {n d : Nat} (hd : d ≤ max 1 n) (hdivides : 1440 % d = 0) : d ≤ divisorBelow n := by
  induction n with
  | zero => exact hd
  | succ n ih =>
    rw [divisorBelow]
    split
    · omega
    · rename_i hno
      have hne : d ≠ n + 1 := by
        rintro rfl
        exact hno hdivides
      exact ih (by omega)

theorem one_le_divisorBelow (n : Nat) : 1 ≤ divisorBelow n := le_divisorBelow (by omega) rfl

theorem divisorBelow_of_divides {n : Nat} (hn : 1 ≤ n) (hdivides : 1440 % n = 0) : divisorBelow n = n :=
  le_antisymm (by simpa [Nat.max_eq_right hn] using divisorBelow_le n) (le_divisorBelow (le_max_right 1 n) hdivides)

theorem demandModeOf_eq_aligned_iff (n : Nat) : demandModeOf n = .aligned ↔ n = 0 := by
  unfold demandModeOf
  split <;> simp_all

/-- The interval length of the clamped image (R118, R135). -/
theorem Meter.clamped_di (m : Meter) :
    m.clamped.di = if m.demandMode = 0 then divisorBelow (clamp 1 60 m.di) else clamp 1 60 m.di := by
  simp only [clamped, demandModeOf_eq_aligned_iff]

theorem clamp_eq_self {lo hi x : Nat} (hlo : lo ≤ x) (hhi : x ≤ hi) : clamp lo hi x = x := by
  unfold clamp
  omega

theorem clamp_bounds {lo hi : Nat} (h : lo ≤ hi) (x : Nat) : lo ≤ clamp lo hi x ∧ clamp lo hi x ≤ hi := by
  unfold clamp
  omega

theorem Meter.clamped_di_bounds (m : Meter) : 1 ≤ m.clamped.di ∧ m.clamped.di ≤ 60 := by
  have hbounds := clamp_bounds (lo := 1) (hi := 60) (by decide) m.di
  rw [clamped_di]
  split
  · have hle := divisorBelow_le (clamp 1 60 m.di)
    exact ⟨one_le_divisorBelow _, by omega⟩
  · exact hbounds

/-- A METER copy without a structural fault has an installable image (R135). -/
theorem Meter.clamped_installed {m : Meter} (h : ∀ i, ¬ m.BadField i) : m.clamped.Installed := by
  obtain ⟨hlow, hhigh, hnet, hsubst, hfailsafe, hunset, hdemand, hreports⟩ := m.forall_not_badField_iff.mp h
  have hq := clamp_bounds (lo := 1) (hi := 255) (by decide) m.qAssert
  refine ⟨⟨hlow, hhigh⟩, hnet, clamp_bounds (by decide) _, clamp_bounds (by decide) _, min_le_left _ _,
    min_le_left _ _, min_le_left _ _, clamp_bounds (by decide) _, hsubst, clamp_bounds (by decide) _, min_le_left _ _,
    hq, ?_, ?_, min_le_left _ _, min_le_left _ _, hfailsafe, hunset, hdemand, m.clamped_di_bounds, ?_, hreports⟩
  · simp only [clamped]
    omega
  · simp only [clamped]
    split
    · exact Or.inl rfl
    · exact Or.inr (clamp_bounds (by decide) _)
  · intro hmode
    have haligned : m.demandMode = 0 := hmode
    rw [clamped_di, if_pos haligned]
    exact divisorBelow_divides _

/-- An installed METER table is its own image. -/
theorem Meter.Installed.clamped_eq {m : Meter} (h : m.Installed) : m.clamped = m := by
  obtain ⟨-, -, hnw, hq, hcreep, htrip, hwarn, hcount, -, hcycle, hsubstMax, hassert, hclear, hstuck, hlowv, hwatchdog,
    -, -, -, hdi, haligned, -⟩ := h
  have hdiEq : m.clamped.di = m.di := by
    rw [clamped_di, clamp_eq_self hdi.1 hdi.2]
    split
    · exact divisorBelow_of_divides hdi.1 (haligned ‹_›)
    · rfl
  have hstuckEq : (if m.stuckLimit = 0 then 0 else clamp 16 4000 m.stuckLimit) = m.stuckLimit := by
    split
    · exact Eq.symm ‹_›
    · exact clamp_eq_self (by omega) (by omega)
  have hclearEq : min (m.qAssert - 1) m.qClear = m.qClear := by omega
  have hwarnEq : min m.expTrip m.expWarn = m.expWarn := min_eq_right hwarn
  calc m.clamped
      = { m with di := m.clamped.di } := by
        simp only [clamped, hstuckEq, hclearEq, hwarnEq, clamp_eq_self hnw.1 hnw.2, clamp_eq_self hq.1 hq.2,
          min_eq_right hcreep, min_eq_right htrip, clamp_eq_self hcount.1 hcount.2, clamp_eq_self hcycle.1 hcycle.2,
          min_eq_right hsubstMax, clamp_eq_self hassert.1 hassert.2, min_eq_right hlowv, min_eq_right hwatchdog]
    _ = m := by rw [hdiEq]

/-- A clamped value is the end of its range beyond which it stood, or itself. -/
theorem clamp_cases {lo hi : Nat} (h : lo ≤ hi) (x : Nat) :
    (x < lo → clamp lo hi x = lo) ∧ (hi < x → clamp lo hi x = hi) ∧ (lo ≤ x → x ≤ hi → clamp lo hi x = x) := by
  unfold clamp
  omega

theorem min_cases_zero (hi x : Nat) :
    (x < 0 → min hi x = 0) ∧ (hi < x → min hi x = hi) ∧ (0 ≤ x → x ≤ hi → min hi x = x) := by
  omega

/-- Settles O51: field by field, with the largest divisor of 1440 for the DI of an ALIGNED table. -/
theorem clampedImageIsInstalled : Obligations.ClampedImageIsInstalled := by
  rintro t m rfl
  generalize hm : t.meterPending = m
  have hdi : max 1 (min 60 m.di) = clamp 1 60 m.di := rfl
  refine ⟨fun h => ?_, fun h => h.clamped_eq, fun h => ?_, fun h => ?_, ?_, rfl⟩
  · exact Meter.clamped_installed (hm ▸ t.pendingFault_meter_none_iff.mp h)
  · have hone := (clamp_bounds (lo := 1) (hi := 60) (by decide) m.di).1
    rw [hdi, m.clamped_di, if_pos h]
    refine ⟨(divisorBelow_le _).trans (max_le hone le_rfl), divisorBelow_divides _, fun d hd hdivides => ?_⟩
    exact le_divisorBelow (le_max_of_le_right hd) hdivides
  · rw [m.clamped_di, if_neg h]
    rfl
  · refine ⟨clamp_cases (by decide) _, clamp_cases (by decide) _, min_cases_zero _ _, min_cases_zero _ _,
      min_cases_zero _ _, clamp_cases (by decide) _, clamp_cases (by decide) _, min_cases_zero _ _,
      clamp_cases (by decide) _, min_cases_zero _ _, fun h => if_pos h, fun h => ?_, min_cases_zero _ _,
      min_cases_zero _ _⟩
    have hlimit : m.clamped.stuckLimit = clamp 16 4000 m.stuckLimit := if_neg h
    rw [hlimit]
    exact clamp_cases (by decide) _

end Sys2Proof.Machine

/-! # The register bank: what a credit step does to its chains (R83 to R88) -/

namespace Sys2Proof.Machine

/-! ### The registers of a vector -/

theorem vector_forall_mem_iff {n : Nat} (v : Vector Nat n) (P : Nat → Prop) :
    (∀ r ∈ v.toList, P r) ↔ ∀ b : Fin n, P (v.get b) := by
  simp only [Vector.mem_toList_iff, Vector.mem_iff_getElem]
  constructor
  · intro h b
    exact h _ ⟨b, b.isLt, rfl⟩
  · rintro h r ⟨i, hi, rfl⟩
    exact h ⟨i, hi⟩

@[simp] theorem vector_get_set_same {α : Type} {n : Nat} (v : Vector α n) (b : Fin n) (r : α) :
    (v.set b r).get b = r := by
  simp [Vector.get_eq_getElem]

@[simp] theorem vector_get_set_other {α : Type} {n : Nat} (v : Vector α n) {b c : Fin n} (h : c ≠ b) (r : α) :
    (v.set b r).get c = v.get c := by
  have hne : b.val ≠ c.val := fun heq => h (Fin.ext heq.symm)
  simp [Vector.get_eq_getElem, hne]

theorem Accounts.forall_registers_iff (acc : Accounts) (P : Nat → Prop) :
    (∀ r ∈ acc.registers, P r) ↔
      (∀ b, P (acc.bandImp.get b) ∧ P (acc.bandExp.get b)) ∧ ∀ x, P (acc.gross.get x).imp ∧ P (acc.gross.get x).exp := by
  simp only [registers, List.forall_mem_append, vector_forall_mem_iff, forall_and]
  refine and_congr_right fun _ => ?_
  constructor
  · intro h
    constructor <;> intro x <;> cases x <;> exact h _ (by simp [PerPhase.get])
  · rintro ⟨himp, hexp⟩
    simpa using ⟨himp .a, hexp .a, himp .b, hexp .b, himp .c, hexp .c⟩

theorem Accounts.forall_residues_iff (acc : Accounts) (P : Nat → Prop) :
    (∀ r ∈ acc.residues, P r) ↔
      (P acc.residue.imp ∧ P acc.residue.exp) ∧ ∀ x, P (acc.grossResidue.get x).imp ∧ P (acc.grossResidue.get x).exp := by
  constructor
  · intro h
    refine ⟨⟨h _ (by simp [residues]), h _ (by simp [residues])⟩, fun x => ?_⟩
    cases x <;> exact ⟨h _ (by simp [residues, PerPhase.get]), h _ (by simp [residues, PerPhase.get])⟩
  · rintro ⟨⟨himp, hexp⟩, hgross⟩
    simpa [residues] using ⟨himp, hexp, (hgross .a).1, (hgross .a).2, (hgross .b).1, (hgross .b).2, (hgross .c).1,
      (hgross .c).2⟩

/-! ### A credit step -/

/-- What a credit step does to the chains of the bank (R83 to R86, R96). -/
structure Accounts.Credited (acc acc' : Accounts) (q : Nat) (b : Band) (shares : Flows) (gross : PerPhase Flows) : Prop where
  imp : ChainTakes q acc.residue.imp (acc.bandImp.get b) shares.imp acc'.residue.imp (acc'.bandImp.get b)
  exp : ChainTakes q acc.residue.exp (acc.bandExp.get b) shares.exp acc'.residue.exp (acc'.bandExp.get b)
  gross : ∀ x, ChainTakes q (acc.grossResidue.get x).imp (acc.gross.get x).imp (gross.get x).imp
      (acc'.grossResidue.get x).imp (acc'.gross.get x).imp
    ∧ ChainTakes q (acc.grossResidue.get x).exp (acc.gross.get x).exp (gross.get x).exp
      (acc'.grossResidue.get x).exp (acc'.gross.get x).exp
  otherBands : ∀ c, c ≠ b → acc'.bandImp.get c = acc.bandImp.get c ∧ acc'.bandExp.get c = acc.bandExp.get c
  updateCount : acc'.updateCount = (acc.updateCount + 1) % 4294967296

theorem Accounts.creditAll_credited (acc : Accounts) (q : Nat) (b : Band) (shares : Flows) (gross : PerPhase Flows) :
    acc.Credited (acc.creditAll q b shares gross).1 q b shares gross where
  imp := ⟨rfl, vector_get_set_same _ _ _⟩
  exp := ⟨rfl, vector_get_set_same _ _ _⟩
  gross x := by cases x <;> exact ⟨⟨rfl, rfl⟩, ⟨rfl, rfl⟩⟩
  otherBands _ hc := ⟨vector_get_set_other _ hc _, vector_get_set_other _ hc _⟩
  updateCount := rfl

/-- The credit step says that a register wraps exactly where one passes its top (R84). -/
theorem Accounts.creditAll_wraps_iff (acc : Accounts) (q : Nat) (b : Band) (shares : Flows) (gross : PerPhase Flows) :
    (acc.creditAll q b shares gross).2.2 = true ↔ acc.Wraps q b shares gross := by
  have hphase (P : Phase → Prop) : (∃ x, P x) ↔ P .a ∨ P .b ∨ P .c :=
    ⟨fun ⟨x, hx⟩ => by cases x <;> simp [hx], fun h => by rcases h with h | h | h <;> exact ⟨_, h⟩⟩
  simp only [creditAll, chainStep, Wraps, hphase, Bool.or_eq_true, decide_eq_true_iff, or_assoc]
  exact Iff.rfl

theorem ChainTakes.register_lt {q residue register share residue' register' : Nat}
    (h : ChainTakes q residue register share residue' register') : register' < 2 ^ 48 := by
  obtain ⟨-, rfl⟩ := h
  exact Nat.mod_lt _ (by decide)

theorem ChainTakes.residue_lt {q residue register share residue' register' : Nat}
    (h : ChainTakes q residue register share residue' register') (hq : 0 < q) : residue' < q := by
  obtain ⟨rfl, -⟩ := h
  exact Nat.mod_lt _ hq

namespace Accounts.Credited

variable {acc acc' : Accounts} {q : Nat} {b : Band} {shares : Flows} {gross : PerPhase Flows}
  (h : acc.Credited acc' q b shares gross)

include h

theorem registers_lt (hacc : ∀ r ∈ acc.registers, r < 2 ^ 48) : ∀ r ∈ acc'.registers, r < 2 ^ 48 := by
  obtain ⟨hbands, -⟩ := (acc.forall_registers_iff (· < 2 ^ 48)).mp hacc
  refine (acc'.forall_registers_iff (· < 2 ^ 48)).mpr ⟨fun c => ?_, fun x => ?_⟩
  · by_cases hc : c = b
    · subst hc
      exact ⟨h.imp.register_lt, h.exp.register_lt⟩
    · obtain ⟨himp, hexp⟩ := h.otherBands c hc
      rw [himp, hexp]
      exact hbands c
  · exact ⟨(h.gross x).1.register_lt, (h.gross x).2.register_lt⟩

theorem residues_lt (hq : 0 < q) : ∀ r ∈ acc'.residues, r < q :=
  (acc'.forall_residues_iff (· < q)).mpr
    ⟨⟨h.imp.residue_lt hq, h.exp.residue_lt hq⟩, fun x => ⟨(h.gross x).1.residue_lt hq, (h.gross x).2.residue_lt hq⟩⟩

end Accounts.Credited

/-- Without shares the credit step is the normalisation (R88). -/
theorem Accounts.Credited.normalised {acc acc' : Accounts} {q : Nat} {b : Band}
    (h : acc.Credited acc' q b ⟨0, 0⟩ (.all ⟨0, 0⟩)) : acc.Normalised acc' q b :=
  ⟨h.imp, h.exp, fun x => by cases x <;> exact h.gross _, h.otherBands, h.updateCount⟩

/-! ### The credit step of the state -/

theorem State.creditBank_bank (s : State) (q : Nat) (b : Band) (shares : Flows) (gross : PerPhase Flows) (mark : Bool) :
    (s.creditBank q b shares gross mark).bank =
      { s.bank with accounts := (s.bank.accounts.creditAll q b shares gross).1 } := by
  simp [State.creditBank]

theorem State.creditBank_credits (s : State) (q : Nat) (b : Band) (shares : Flows) (gross : PerPhase Flows)
    (mark : Bool) :
    (s.creditBank q b shares gross mark).credits = s.credits ++
      [{ quanta := ⟨(s.bank.accounts.residue.imp + shares.imp) / q, (s.bank.accounts.residue.exp + shares.exp) / q⟩
         band := b, intervalEnd := mark }] := by
  simp only [State.creditBank, State.handCredit, State.raiseIf_frame]
  rfl

/-- A credit step raises ENERGY_ROLLOVER where a register passes its top. -/
theorem State.creditBank_monitor (s : State) (q : Nat) (b : Band) (shares : Flows) (gross : PerPhase Flows)
    (mark : Bool) :
    (s.creditBank q b shares gross mark).monitor =
      (s.raiseIf (s.bank.accounts.creditAll q b shares gross).2.2 .energyRollover).monitor := by
  simp only [State.creditBank, State.handCredit, State.raiseIf, State.raise]
  split <;> rfl

/-! ### A run of credits -/

/-- What a chain has credited and keeps after a run of credits, each with the quantum in force at it: the residue, the register,
and the number and the size of the quanta (the state of the fold that `Obligations.ChainConservesEnergy` writes out). -/
def chainRun (run : List (Nat × Nat)) (c : Nat × Nat × Nat × Nat) : Nat × Nat × Nat × Nat :=
  run.foldl (fun (c : Nat × Nat × Nat × Nat) p =>
    let d := chainStep p.1 c.1 c.2.1 p.2
    (d.residue, d.register, c.2.2.1 + d.quanta, c.2.2.2 + d.quanta * p.1)) c

/-- Shares and residue before are residue and sized quanta after. -/
theorem chainRun_conserves (run : List (Nat × Nat)) (residue register quanta size : Nat) :
    residue + (run.map Prod.snd).sum + size =
      (chainRun run (residue, register, quanta, size)).1 + (chainRun run (residue, register, quanta, size)).2.2.2 := by
  induction run generalizing residue register quanta size with
  | nil => simp [chainRun]
  | cons p run ih =>
    obtain ⟨q, share⟩ := p
    have hstep := ih ((residue + share) % q) ((register + (residue + share) / q) % Config.registerModulus)
      (quanta + (residue + share) / q) (size + (residue + share) / q * q)
    have hdiv : (residue + share) % q + (residue + share) / q * q = residue + share := Nat.mod_add_div' _ _
    rw [chainRun, List.foldl_cons, ← chainRun]
    simp only [chainStep]
    rw [← hstep, List.map_cons, List.sum_cons]
    omega

/-- The residue is below the last quantum. -/
theorem chainRun_residue_lt (run : List (Nat × Nat)) (c : Nat × Nat × Nat × Nat) {q share : Nat} (hq : 0 < q)
    (hlast : run.getLast? = some (q, share)) : (chainRun run c).1 < q := by
  obtain ⟨before, rfl⟩ := List.getLast?_eq_some_iff.mp hlast
  rw [chainRun, List.foldl_concat]
  exact Nat.mod_lt _ hq

/-- The register has moved by the quanta, modulo 2^48. -/
theorem chainRun_register (run : List (Nat × Nat)) (residue register quanta size start : Nat)
    (hrun : run ≠ [] ∨ register = (start + quanta) % Config.registerModulus)
    (hregister : register % Config.registerModulus = (start + quanta) % Config.registerModulus) :
    (chainRun run (residue, register, quanta, size)).2.1 =
      (start + (chainRun run (residue, register, quanta, size)).2.2.1) % Config.registerModulus := by
  induction run generalizing residue register quanta size with
  | nil => exact hrun.resolve_left (fun h => h rfl)
  | cons p run ih =>
    have hmoved : (register + (residue + p.2) / p.1) % Config.registerModulus =
        (start + (quanta + (residue + p.2) / p.1)) % Config.registerModulus := by
      rw [← Nat.add_assoc, Nat.add_mod, hregister, ← Nat.add_mod]
    exact ih _ _ _ _ (Or.inr hmoved) ((Nat.mod_mod _ _).trans hmoved)

/-- Settles O37: the run by induction over its credits, the flag from the marks of the eight chains. -/
theorem chainConservesEnergy : Obligations.ChainConservesEnergy := by
  refine ⟨fun run residue register hpositive => ⟨?_, fun q share hlast => ?_, fun hrun => ?_⟩,
    fun s q b shares gross mark => ⟨fun hwraps => ?_, fun hfits => ?_⟩⟩
  · exact chainRun_conserves run residue register 0 0
  · exact chainRun_residue_lt run _ (hpositive _ (List.mem_of_getLast? hlast)) hlast
  · exact chainRun_register run residue register 0 0 register (Or.inl hrun) rfl
  · rw [s.creditBank_monitor, (s.bank.accounts.creditAll_wraps_iff q b shares gross).mpr hwraps]
    rfl
  · have hno : (s.bank.accounts.creditAll q b shares gross).2.2 = false := by
      rw [Bool.eq_false_iff, ne_eq, s.bank.accounts.creditAll_wraps_iff q b shares gross]
      exact hfits
    rw [s.creditBank_monitor, hno]
    rfl

end Sys2Proof.Machine

/-! # The table law under each operation of the table store (R134 to R136) -/

namespace Sys2Proof.Machine

/-! ### What a write brings into a pending copy -/

theorem forall_mem_overwrite {α : Type} {P : α → Prop} {old entries : List α} {first : Nat} (hold : ∀ y ∈ old, P y)
    (hentries : ∀ y ∈ entries, P y) : ∀ y ∈ overwrite old first entries, P y := by
  intro y hy
  obtain ⟨i, hi⟩ := List.mem_iff_getElem?.mp hy
  rw [getElem?_overwrite] at hi
  split at hi
  · exact hentries y (List.mem_of_getElem? hi)
  · exact hold y (List.mem_of_getElem? hi)

theorem length_le_of_mem_pieces {n fuel : Nat} {l b : List Byte} (hb : b ∈ pieces n fuel l) : b.length ≤ n := by
  induction fuel generalizing l with
  | zero => exact absurd hb (by simp [pieces])
  | succ fuel ih =>
    rw [pieces] at hb
    split at hb
    · exact absurd hb (by simp)
    · rcases List.mem_cons.mp hb with rfl | hrest
      · exact List.length_take_le n l
      · exact ih hrest

theorem beNat_lt_of_length_le {l : List Byte} {n : Nat} (h : l.length ≤ n) : beNat l < 256 ^ n :=
  (beNat_lt l).trans_le (Nat.pow_le_pow_right (by decide) h)

/-- Two bytes or fewer carry a 16-bit two's complement number. -/
theorem beInt_range {l : List Byte} (h : l.length ≤ 2) : -32768 ≤ beInt l ∧ beInt l ≤ 32767 := by
  have hlt := beNat_lt l
  have hcases : l.length = 0 ∨ l.length = 1 ∨ l.length = 2 := by omega
  simp only [beInt]
  rcases hcases with hl | hl | hl <;> rw [hl] at hlt ⊢ <;> split <;> omega

/-- A CAL entry within the ranges of its encoding (R130), whatever its POLARITY. -/
def CalEntry.Encodable (e : CalEntry) : Prop :=
  (-32768 ≤ e.vOfs ∧ e.vOfs ≤ 32767) ∧ e.vGain ≤ 65535 ∧ (-32768 ≤ e.iOfs ∧ e.iOfs ≤ 32767) ∧ e.iGain ≤ 65535
    ∧ e.delay ≤ 255 ∧ e.polarity ≤ 255

theorem CalEntry.Encodable.installed {e : CalEntry} (h : e.Encodable) (hpolarity : e.polarity ≤ 1) : e.Installed := by
  obtain ⟨hv, hvg, hi, hig, hdelay, -⟩ := h
  exact ⟨hv, hvg, hi, hig, hdelay, hpolarity⟩

theorem calEntryOf_encodable (b : List Byte) : (calEntryOf b).Encodable := by
  have hword (l : List Byte) : beNat (l.take 2) ≤ 65535 :=
    Nat.le_of_lt_succ (beNat_lt_of_length_le (n := 2) (List.length_take_le 2 l))
  have hbyte (l : List Byte) : beNat (l.take 1) ≤ 255 :=
    Nat.le_of_lt_succ (beNat_lt_of_length_le (n := 1) (List.length_take_le 1 l))
  exact ⟨beInt_range (List.length_take_le 2 _), hword _, beInt_range (List.length_take_le 2 _), hword _, hbyte _,
    hbyte _⟩

theorem PerPhase.forall_mem_toList_iff {α : Type} (t : PerPhase α) (P : α → Prop) :
    (∀ e ∈ t.toList, P e) ↔ ∀ x, P (t.get x) := by
  rw [← t.forall_toList_iff fun _ e => P e]
  exact ⟨fun h n e he => h e (List.mem_of_getElem? he),
    fun h e he => let ⟨n, hn⟩ := List.mem_iff_getElem?.mp he; h n e hn⟩

theorem writeCal_toList (t : PerPhase CalEntry) (first : Nat) (entries : List CalEntry) :
    (writeCal t first entries).toList = overwrite t.toList first entries := by
  obtain ⟨a, b, c, habc⟩ := List.length_eq_three.mp (overwrite_length t.toList first entries)
  rw [writeCal, habc]
  rfl

theorem writeCal_encodable {t : PerPhase CalEntry} (h : ∀ x, (t.get x).Encodable) (first : Nat) (bytes : List Byte) :
    ∀ x, ((writeCal t first ((pieces 10 bytes.length bytes).map calEntryOf)).get x).Encodable := by
  rw [← PerPhase.forall_mem_toList_iff, writeCal_toList]
  refine forall_mem_overwrite ((t.forall_mem_toList_iff _).mpr h) fun e he => ?_
  obtain ⟨b, -, rfl⟩ := List.mem_map.mp he
  exact calEntryOf_encodable b

theorem meterOf_fields_lt {m : Meter} (h : ∀ v ∈ m.fields, v < 2 ^ 64) (first : Nat) (bytes : List Byte) :
    ∀ v ∈ (meterOf (overwrite m.fields first ((pieces 8 bytes.length bytes).map beNat))).fields, v < 2 ^ 64 := by
  rw [fields_meterOf (overwrite_length m.fields first _)]
  refine forall_mem_overwrite h fun v hv => ?_
  obtain ⟨b, hb, rfl⟩ := List.mem_map.mp hv
  exact beNat_lt_of_length_le (n := 8) (length_le_of_mem_pieces hb)

theorem writeCalendar_encodable {t : CalendarTable} (h : t.Encodable) (first : Nat) (bytes : List Byte) :
    (writeCalendar t first bytes).Encodable := by
  obtain ⟨hpoints, hweek, hpoint, hday, hoffset⟩ := h
  have hold : ∀ d ∈ t.week ++ [t.offset], d ≤ 255 := by
    intro d hd
    rcases List.mem_append.mp hd with hd | hd
    · exact hday d hd
    · rwa [List.mem_singleton.mp hd]
  have hnew : ∀ d ∈ (bytes.drop (3 * (96 - first))).map BitVec.toNat, d ≤ 255 := by
    intro d hd
    obtain ⟨b, -, rfl⟩ := List.mem_map.mp hd
    have := b.isLt
    omega
  have hdays := forall_mem_overwrite (first := first - 96) hold hnew
  rw [← writeCalendar_days] at hdays
  have hweek' : (writeCalendar t first bytes).week.length = 7 := by simp [writeCalendar, hweek]
  refine ⟨by simp [writeCalendar, hpoints], hweek', ?_, fun d hd => hdays d (List.mem_append_left _ hd),
    hdays _ (List.mem_append_right _ (List.mem_singleton_self _))⟩
  refine forall_mem_overwrite hpoint fun p hp => ?_
  obtain ⟨b, hb, rfl⟩ := List.mem_map.mp hp
  have hlength := length_le_of_mem_pieces hb
  exact ⟨Nat.le_of_lt_succ (beNat_lt_of_length_le (n := 2) (List.length_take_le 2 b)),
    Nat.le_of_lt_succ (beNat_lt_of_length_le (n := 1) (by rw [List.length_drop]; omega))⟩

/-! ### The law under each operation -/

namespace State.TableLaw

variable {s : State}

theorem congr {t : State} (h : s.TableLaw) (htables : t.tables = s.tables) : t.TableLaw := by
  unfold State.TableLaw
  rw [htables]
  exact h

theorem meter_installed (h : s.TableLaw) {m : Meter} (hm : s.tables.meterActive = some m) : m.Installed := by
  obtain ⟨-, hmeter, -⟩ := h
  exact hmeter m hm

theorem cal_encodable (h : s.TableLaw) (x : Phase) : (s.tables.calPending.get x).Encodable := by
  obtain ⟨-, -, -, -, hcal, -⟩ := h
  exact hcal x

theorem pendingFault_of_request (h : s.TableLaw) {name : TableName} (hname : s.tables.request name = true) :
    s.tables.pendingFault name = none := by
  obtain ⟨-, -, -, hrequest, -⟩ := h
  exact hrequest name hname

/-- Pending copies without a structural fault can be installed. -/
theorem activate (h : s.TableLaw) {w : TableChoice} (hcal : w.cal = true → s.tables.pendingFault .cal = none)
    (hmeter : w.meter = true → s.tables.pendingFault .meter = none)
    (hcalendar : w.calendar = true → s.tables.pendingFault .calendar = none) :
    ({ s with tables := s.tables.activate w } : State).TableLaw := by
  obtain ⟨hcalA, hmeterA, hcalendarA, hrequest, hcalP, hmeterP, htrigger, hcalendarP, hencodable⟩ := h
  refine ⟨fun t ht x => ?_, fun m hm => ?_, fun t ht => ?_, fun name hname => ?_, hcalP, hmeterP, htrigger, hcalendarP,
    fun t ht => ?_⟩
  · simp only [Tables.activate] at ht
    split at ht
    · cases ht
      have hpolarity := s.tables.pendingFault_cal_none_iff.mp (hcal ‹_›) x
      exact CalEntry.Encodable.installed (hcalP x) hpolarity
    · exact hcalA t ht x
  · simp only [Tables.activate] at hm
    split at hm
    · cases hm
      exact Meter.clamped_installed (s.tables.pendingFault_meter_none_iff.mp (hmeter ‹_›))
    · exact hmeterA m hm
  · simp only [Tables.activate] at ht
    split at ht
    · cases ht
      exact hcalendar ‹_›
    · exact hcalendarA t ht
  · have hstood : s.tables.request name = true := by
      cases name with
      | cal | meter | calendar => exact (Bool.and_eq_true_iff.mp hname).1
      | trigger => exact hname
    have hsound := hrequest name hstood
    cases name <;> exact hsound
  · simp only [Tables.activate] at ht
    split at ht
    · cases ht
      exact hcalendarP
    · exact hencodable t ht

/-- The requests alone: one that stands belongs to a sound pending copy. -/
theorem withRequests (h : s.TableLaw) {t : Tables}
    (hother : { t with
      calRequest := s.tables.calRequest, meterRequest := s.tables.meterRequest
      calendarRequest := s.tables.calendarRequest } = s.tables)
    (hrequest : ∀ name, t.request name = true → s.tables.pendingFault name = none) :
    ({ s with tables := t } : State).TableLaw := by
  obtain ⟨hcalA, hmeterA, hcalendarA, -, hcalP, hmeterP, htrigger, hcalendarP, hencodable⟩ := h
  have hfault : ∀ name, t.pendingFault name = s.tables.pendingFault name := by
    intro name
    rw [← hother]
    cases name <;> rfl
  rw [← hother] at hcalA hmeterA hcalendarA hcalP hmeterP htrigger hcalendarP hencodable
  exact ⟨hcalA, hmeterA, hcalendarA, fun name hname => (hfault name).trans (hrequest name hname), hcalP, hmeterP,
    htrigger, hcalendarP, hencodable⟩

theorem setRequest (h : s.TableLaw) (name : TableName) (v : Bool)
    (hv : v = true → s.tables.pendingFault name = none) :
    ({ s with tables := s.tables.setRequest name v } : State).TableLaw := by
  refine h.withRequests (by cases name <;> rfl) fun other hother => ?_
  by_cases hname : other = name
  · subst hname
    cases v with
    | true => exact hv rfl
    | false => cases other <;> exact absurd hother (by simp [Tables.setRequest, Tables.request])
  · refine h.pendingFault_of_request ?_
    cases name <;> cases other <;> simp_all [Tables.setRequest, Tables.request]

theorem cancelRequests (h : s.TableLaw) : ({ s with tables := s.tables.cancelRequests } : State).TableLaw :=
  h.withRequests rfl fun name hname => absurd hname (by cases name <;> simp [Tables.cancelRequests, Tables.request])

/-- A write into a pending copy for which no request stands. -/
theorem write (h : s.TableLaw) {name : TableName} (hname : s.tables.request name = false) (first : Nat)
    (bytes : List Byte) : ({ s with tables := s.tables.write name first bytes } : State).TableLaw := by
  obtain ⟨hcalA, hmeterA, hcalendarA, hrequest, hcalP, hmeterP, htrigger, hcalendarP, hencodable⟩ := h
  have hother : ∀ other, other ≠ name → s.tables.request other = true →
      (s.tables.write name first bytes).pendingFault other = none := by
    intro other hne hstood
    have hsound := hrequest other hstood
    cases name <;> cases other <;> simp_all [Tables.write, Tables.pendingFault]
  have hrequest' : ∀ other, (s.tables.write name first bytes).request other = true →
      (s.tables.write name first bytes).pendingFault other = none := by
    intro other hstands
    have hstood : s.tables.request other = true := by
      cases name <;> cases other <;> exact hstands
    refine hother other ?_ hstood
    rintro rfl
    exact absurd hstood (by simp [hname])
  cases name with
  | cal =>
    exact ⟨hcalA, hmeterA, hcalendarA, hrequest', writeCal_encodable hcalP first bytes, hmeterP, htrigger, hcalendarP,
      hencodable⟩
  | meter =>
    exact ⟨hcalA, hmeterA, hcalendarA, hrequest', hcalP, meterOf_fields_lt hmeterP first bytes, htrigger, hcalendarP,
      hencodable⟩
  | calendar =>
    exact ⟨hcalA, hmeterA, hcalendarA, hrequest', hcalP, hmeterP, htrigger, writeCalendar_encodable hcalendarP _ _,
      hencodable⟩
  | trigger =>
    exact ⟨hcalA, hmeterA, hcalendarA, hrequest', hcalP, hmeterP, (overwrite_length _ _ _).trans htrigger, hcalendarP,
      hencodable⟩

end State.TableLaw

/-! ### What an install does to the table store and the bank -/

/-- The bank at a METER install: a changed quantum normalises (R88, R89). -/
def Bank.afterInstall (k : Bank) (old : Option Meter) (new : Meter) (b : Band) : Bank :=
  match old with
  | none => k
  | some m =>
    if m.q = new.q then k else { k with accounts := (k.accounts.creditAll new.q b ⟨0, 0⟩ (.all ⟨0, 0⟩)).1 }

theorem State.installAtBank_bank (s : State) (old : Option Meter) (new : Meter) (b : Band) :
    (s.installAtBank old new b).bank = s.bank.afterInstall old new b := by
  cases old with
  | none => rfl
  | some m =>
    simp only [State.installAtBank, Bank.afterInstall]
    split
    · rfl
    · exact s.creditBank_bank _ _ _ _ _

theorem State.installMeter_bank (s : State) (old : Option Meter) (new : Meter) (b : Band) :
    (s.installMeter old new b).bank = s.bank.afterInstall old new b := by
  simp [State.installMeter, State.installAtBank_bank]

@[simp] theorem State.install_tables (s : State) (w : TableChoice) (b : Band) :
    (s.install w b).tables = s.tables.activate w := by
  simp only [State.install, State.raiseIf_frame]
  split <;> split <;> split <;> simp

theorem State.install_bank (s : State) (w : TableChoice) (b : Band) :
    (s.install w b).bank =
      if w.meter then s.bank.afterInstall s.tables.meterActive s.tables.meterPending.clamped b else s.bank := by
  simp only [State.install, State.raiseIf_frame]
  split <;> split <;> split <;> simp_all [State.installMeter_bank, Tables.activate]

end Sys2Proof.Machine

/-! # The laws of the tables, the window and the bank under each operation -/

namespace Sys2Proof.Machine

/-! ### The bank -/

theorem Meter.Installed.q_pos {m : Meter} (h : m.Installed) : 0 < m.q := by
  obtain ⟨-, -, -, ⟨hq, -⟩, -⟩ := h
  omega

theorem Meter.Installed.nw_lower {m : Meter} (h : m.Installed) : 80 ≤ m.nw := by
  obtain ⟨-, -, ⟨hnw, -⟩, -⟩ := h
  exact hnw

namespace State.BankLaw

variable {s : State}

theorem congr {t : State} (h : s.BankLaw) (haccounts : t.bank.accounts = s.bank.accounts)
    (hmeter : t.tables.meterActive = s.tables.meterActive) : t.BankLaw := by
  unfold State.BankLaw
  rw [haccounts, hmeter]
  exact h

/-- A credit step under the active quantum. -/
theorem credited {t : State} (h : s.BankLaw) {acc : Accounts} {m : Meter} {b : Band} {shares : Flows}
    {gross : PerPhase Flows} (haccounts : t.bank.accounts = acc) (hactive : t.tables.meterActive = some m) (hq : 0 < m.q)
    (hcredited : s.bank.accounts.Credited acc m.q b shares gross) : t.BankLaw := by
  subst haccounts
  obtain ⟨hregisters, -, -⟩ := h
  refine ⟨hcredited.registers_lt hregisters, fun hnone => ?_, fun n hn => ?_⟩
  · exact absurd (hactive.symm.trans hnone) (by simp)
  · obtain rfl : m = n := Option.some.inj (hactive.symm.trans hn)
    exact hcredited.residues_lt hq

end State.BankLaw

/-- An install of sound pending copies: the residues are normalised where the quantum changes. -/
theorem State.install_bankLaw {s : State} (h : s.BankLaw) (w : TableChoice) (b : Band)
    (hmeter : w.meter = true → s.tables.pendingFault .meter = none) : (s.install w b).BankLaw := by
  cases hw : w.meter with
  | false => exact h.congr (by simp [State.install_bank, hw]) (by simp [Tables.activate, hw])
  | true =>
    have hinstalled := Meter.clamped_installed (s.tables.pendingFault_meter_none_iff.mp (hmeter hw))
    have hactive : (s.install w b).tables.meterActive = some s.tables.meterPending.clamped := by
      simp [Tables.activate, hw]
    have hbank : (s.install w b).bank = s.bank.afterInstall s.tables.meterActive s.tables.meterPending.clamped b := by
      simp [State.install_bank, hw]
    cases hold : s.tables.meterActive with
    | none =>
      rw [hold, Bank.afterInstall] at hbank
      obtain ⟨hregisters, hzero, -⟩ := h
      refine ⟨hbank ▸ hregisters, fun hnone => absurd (hactive.symm.trans hnone) (by simp), fun n hn r hr => ?_⟩
      obtain rfl := Option.some.inj (hactive.symm.trans hn)
      rw [hbank] at hr
      rw [hzero hold r hr]
      exact hinstalled.q_pos
    | some m =>
      by_cases hq : m.q = s.tables.meterPending.clamped.q
      · rw [hold, Bank.afterInstall, if_pos hq] at hbank
        obtain ⟨hregisters, -, hresidues⟩ := h
        refine ⟨hbank ▸ hregisters, fun hnone => absurd (hactive.symm.trans hnone) (by simp), fun n hn => ?_⟩
        obtain rfl := Option.some.inj (hactive.symm.trans hn)
        rw [hbank, ← hq]
        exact hresidues m hold
      · rw [hold, Bank.afterInstall, if_neg hq] at hbank
        have hcredited := s.bank.accounts.creditAll_credited s.tables.meterPending.clamped.q b ⟨0, 0⟩ (.all ⟨0, 0⟩)
        exact h.credited (congrArg Bank.accounts hbank) hactive hinstalled.q_pos hcredited

/-! ### The window -/

namespace State.WindowLaw

theorem congr {s t : State} (h : s.WindowLaw) (hwindow : t.engine.window = s.engine.window)
    (hstate : t.engine.state = s.engine.state) (hcal : t.tables.calActive = s.tables.calActive)
    (hmeter : t.tables.meterActive = s.tables.meterActive) : t.WindowLaw := by
  unfold State.WindowLaw State.windowsRun
  rw [hwindow, hstate, hcal, hmeter]
  exact h

/-- A window of zero sets while windows run under active tables. -/
theorem of_empty {s : State} {w : Window} (hwindow : s.engine.window = some w) (hrun : s.windowsRun = true)
    (hcal : s.tables.calActive.isSome = true) (hmeter : s.tables.meterActive.isSome = true) (hopening : w.opening = none)
    (hcount : w.count = 0) (hsums : w.sums = .all sumsZero) : s.WindowLaw := by
  refine ⟨by rw [hwindow, hrun]; rfl, fun _ => ⟨hcal, hmeter⟩, fun v hv => ?_⟩
  obtain rfl : w = v := Option.some.inj (hwindow.symm.trans hv)
  exact ⟨fun _ => ⟨hcount, hsums⟩, fun o ho => absurd (hopening.symm.trans ho) (by simp)⟩

/-- In CONFIG no window is open. -/
theorem of_config {s : State} (hwindow : s.engine.window = none) (hstate : s.engine.state = .config) : s.WindowLaw := by
  have hrun : s.windowsRun = false := by simp [State.windowsRun, hstate]
  refine ⟨by rw [hwindow, hrun]; rfl, fun h => absurd (hrun.symm.trans h) (by simp), fun w hw => ?_⟩
  exact absurd (hwindow.symm.trans hw) (by simp)

end State.WindowLaw

/-! ### The three laws together -/

theorem State.BillingLaw.congr {s t : State} (h : s.BillingLaw) (htables : t.tables = s.tables)
    (hwindow : t.engine.window = s.engine.window) (hstate : t.engine.state = s.engine.state)
    (haccounts : t.bank.accounts = s.bank.accounts) : t.BillingLaw := by
  obtain ⟨htable, hwin, hbank⟩ := h
  exact ⟨htable.congr htables, hwin.congr hwindow hstate (by rw [htables]) (by rw [htables]),
    hbank.congr haccounts (by rw [htables])⟩

theorem State.BillingLaw.congr' {s t : State} (h : s.BillingLaw) (htables : t.tables = s.tables)
    (hengine : t.engine = s.engine) (hbank : t.bank = s.bank) : t.BillingLaw :=
  h.congr htables (by rw [hengine]) (by rw [hengine]) (by rw [hbank])

/-! ### Installs -/

/-- An install of sound pending copies. -/
theorem State.install_tableLaw {s : State} (h : s.TableLaw) (w : TableChoice) (b : Band)
    (hcal : w.cal = true → s.tables.pendingFault .cal = none)
    (hmeter : w.meter = true → s.tables.pendingFault .meter = none)
    (hcalendar : w.calendar = true → s.tables.pendingFault .calendar = none) : (s.install w b).TableLaw :=
  (h.activate hcal hmeter hcalendar).congr (by simp)

theorem State.installRequested_tableLaw {s : State} (h : s.TableLaw) (b : Band) : (s.installRequested b).TableLaw :=
  State.install_tableLaw h _ b (h.pendingFault_of_request (name := .cal)) (h.pendingFault_of_request (name := .meter))
    (h.pendingFault_of_request (name := .calendar))

theorem State.installRequested_bankLaw {s : State} (h : s.TableLaw) (hbank : s.BankLaw) (b : Band) :
    (s.installRequested b).BankLaw :=
  State.install_bankLaw hbank _ b (h.pendingFault_of_request (name := .meter))

/-- An active table stays active. -/
theorem Tables.activate_active (t : Tables) (w : TableChoice) :
    (t.calActive.isSome = true → (t.activate w).calActive.isSome = true)
      ∧ (t.meterActive.isSome = true → (t.activate w).meterActive.isSome = true) := by
  simp only [activate]
  constructor <;> intro h <;> split <;> simp [h]

theorem State.installRequested_tables (s : State) (b : Band) :
    (s.installRequested b).tables =
      s.tables.activate
        { cal := s.tables.calRequest, meter := s.tables.meterRequest, calendar := s.tables.calendarRequest } :=
  s.install_tables _ b

/-! ### A close -/

theorem State.closeStages_bank (s : State) (w : Window) (o : Opening) (cause : CloseCause) :
    (s.closeStages w o cause).bank =
      { s.bank with accounts :=
        (s.bank.accounts.creditAll o.meter.q w.band
          ⟨(s.engine.summarize w o cause).aImp, (s.engine.summarize w o cause).aExp⟩
          (s.engine.summarize w o cause).grossShares).1 } := by
  simp only [State.closeStages]
  split <;> simp [State.creditBank_bank, Engine.summarize]

theorem State.closeStages_engine (s : State) (w : Window) (o : Opening) (cause : CloseCause) :
    (s.closeStages w o cause).engine = s.engine.record (s.engine.summarize w o cause) := by
  simp only [State.closeStages]
  split <;> simp

/-- A close leaves an empty window, whatever count the closed one had. -/
theorem State.closeWindow_billingLaw {s : State} (htable : s.TableLaw) (hbank : s.BankLaw) (hrun : s.windowsRun = true)
    (w : Window) {o : Opening} (hcal : s.tables.calActive.isSome = true) (hmeter : s.tables.meterActive = some o.meter)
    (cause : CloseCause) : (s.closeWindow w o cause).BillingLaw := by
  have htables : (s.closeStages w o cause).tables = s.tables := by simp
  have hstate : (s.closeStages w o cause).engine.state = s.engine.state := by rw [s.closeStages_engine]; rfl
  have htable1 : (s.closeStages w o cause).TableLaw := htable.congr htables
  have hbank1 : (s.closeStages w o cause).BankLaw := by
    have hcredited := s.bank.accounts.creditAll_credited o.meter.q w.band
      ⟨(s.engine.summarize w o cause).aImp, (s.engine.summarize w o cause).aExp⟩
      (s.engine.summarize w o cause).grossShares
    exact hbank.credited (congrArg Bank.accounts (s.closeStages_bank w o cause)) (by rw [htables]; exact hmeter)
      (htable.meter_installed hmeter).q_pos hcredited
  have hactive : s.tables.meterActive.isSome = true := by rw [hmeter]; rfl
  unfold State.closeWindow
  dsimp only
  split
  · have hactivated := (s.closeStages w o cause).tables.activate_active
      { cal := (s.closeStages w o cause).tables.calRequest, meter := (s.closeStages w o cause).tables.meterRequest
        calendar := (s.closeStages w o cause).tables.calendarRequest }
    rw [← State.installRequested_tables _ w.band, htables] at hactivated
    refine ⟨(State.installRequested_tableLaw htable1 w.band).congr rfl, ?_,
      (State.installRequested_bankLaw htable1 hbank1 w.band).congr rfl rfl⟩
    refine State.WindowLaw.of_empty rfl ?_ (hactivated.1 hcal) (hactivated.2 hactive) rfl rfl rfl
    simpa [State.windowsRun, hstate] using hrun
  · refine ⟨htable1.congr rfl, ?_, hbank1.congr rfl rfl⟩
    refine State.WindowLaw.of_empty rfl ?_ ?_ ?_ rfl rfl rfl
    · simpa [State.windowsRun, hstate] using hrun
    · simpa [htables] using hcal
    · simpa [htables] using hactive

/-- What an open window tells: windows run, both tables are active, and a window with sets was opened under the active METER
table. -/
theorem State.WindowLaw.open_window {s : State} (h : s.WindowLaw) {w : Window} (hwindow : s.engine.window = some w) :
    s.windowsRun = true ∧ s.tables.calActive.isSome = true ∧ s.tables.meterActive.isSome = true := by
  obtain ⟨hsome, hactive, -⟩ := h
  have hrun : s.windowsRun = true := by rw [← hsome, hwindow]; rfl
  exact ⟨hrun, hactive hrun⟩

/-- A window that takes a set and is not full by it keeps the law of windows. -/
theorem Window.take_law {w : Window} {m : Meter} (hnw : 80 ≤ m.nw)
    (hempty : w.opening = none → w.count = 0 ∧ w.sums = .all sumsZero)
    (hopened : ∀ o, w.opening = some o → o.meter = m ∧ 1 ≤ w.count ∧ w.count < o.meter.nw
      ∧ ∀ x, o.meter.lanes.testBit (phaseNumber x) = false → w.sums.get x = sumsZero)
    (c : CompletedSet) (day minute : Nat) :
    ∃ o, (w.take c day minute m).opening = some o ∧ o.meter = m ∧ 1 ≤ (w.take c day minute m).count
      ∧ (w.take c day minute m).count ≤ m.nw
      ∧ ∀ x, m.lanes.testBit (phaseNumber x) = false → (w.take c day minute m).sums.get x = sumsZero := by
  cases hopening : w.opening with
  | none =>
    obtain ⟨hcount, hsums⟩ := hempty hopening
    refine ⟨{ day := day, minute := minute, meter := m }, by simp [Window.take, hopening], rfl, Nat.succ_pos _, ?_,
      fun x hx => ?_⟩
    · simp only [Window.take, hcount]
      omega
    · rw [w.take_of_disabled c day minute m x (by rwa [hopening]), hsums, PerPhase.get_all]
  | some o =>
    obtain ⟨rfl, -, hcount, hdisabled⟩ := hopened o hopening
    refine ⟨o, by simp [Window.take, hopening], rfl, Nat.succ_pos _, hcount, fun x hx => ?_⟩
    rw [w.take_of_disabled c day minute o.meter x (by rwa [hopening]), hdisabled x hx]

/-- A processed set joins the window or closes it. -/
theorem State.processInto_billingLaw {s : State} (h : s.BillingLaw) {w : Window} {m : Meter}
    (hwindow : s.engine.window = some w) (hmeter : s.tables.meterActive = some m) (c : CompletedSet) :
    (s.processInto w m c).BillingLaw := by
  obtain ⟨htable, hwin, hbank⟩ := h
  obtain ⟨hrun, hcal, hactive⟩ := hwin.open_window hwindow
  obtain ⟨hempty, hopened⟩ := hwin.2.2 w hwindow
  have hstate (e : Engine) (hold : Bool) : (e.countHold hold).state = e.state := by
    unfold Engine.countHold
    split <;> rfl
  obtain ⟨o, ho, rfl, hone, hle, hdisabled⟩ := w.take_law (htable.meter_installed hmeter).nw_lower hempty
    (fun o ho => ⟨Option.some.inj ((hopened o ho).1.symm.trans hmeter), (hopened o ho).2⟩) c s.calendar.day
    s.calendar.minute
  unfold State.processInto
  dsimp only
  rw [ho]
  dsimp only
  split
  · refine State.closeWindow_billingLaw (htable.congr (by simp)) (hbank.congr (by simp) (by simp)) ?_ _ (by simpa) (by simpa)
      _
    simpa [State.windowsRun, hstate] using hrun
  · rename_i hnotfull
    refine ⟨htable.congr (by simp), ⟨?_, ?_, fun v hv => ?_⟩, hbank.congr (by simp) (by simp)⟩
    · simpa [State.windowsRun, hstate] using hrun.symm
    · simpa using fun _ => ⟨hcal, hactive⟩
    · simp only [State.reportEngine_frame, Option.some.injEq] at hv
      subst hv
      refine ⟨fun hnone => absurd (ho.symm.trans hnone) (by simp), fun o' ho' => ?_⟩
      obtain rfl : o = o' := Option.some.inj (ho.symm.trans ho')
      exact ⟨by simpa using hmeter, hone, Nat.lt_of_le_of_ne hle hnotfull, hdisabled⟩

theorem State.processSet_billingLaw {s : State} (h : s.BillingLaw) (c : CompletedSet) : (s.processSet c).BillingLaw := by
  unfold State.processSet
  split
  · exact State.processInto_billingLaw h ‹_› ‹_› c
  · exact State.processInto_billingLaw h ‹_› ‹_› c
  · exact h

theorem State.rebandEmpty_billingLaw {s : State} (h : s.BillingLaw) : s.rebandEmpty.BillingLaw := by
  rcases s.rebandEmpty_cases with heq | ⟨w, hwindow, hopening, -, heq⟩
  · rwa [heq]
  · rw [heq]
    obtain ⟨htable, hwin, hbank⟩ := h
    obtain ⟨hrun, hcal, hactive⟩ := hwin.open_window hwindow
    obtain ⟨hcount, hsums⟩ := (hwin.2.2 w hwindow).1 hopening
    exact ⟨htable.congr rfl, State.WindowLaw.of_empty rfl hrun hcal hactive hopening hcount hsums, hbank.congr rfl rfl⟩

theorem State.requestClose_billingLaw {s : State} (h : s.BillingLaw) (cause : ForcedCause) :
    (s.requestClose cause).BillingLaw := by
  unfold State.requestClose
  split
  · exact h
  · exact h
  · rename_i w hwindow _
    obtain ⟨htable, hwin, hbank⟩ := h
    obtain ⟨hrun, hcal, hactive⟩ := hwin.open_window hwindow
    split
    · rename_i o ho
      exact State.closeWindow_billingLaw htable hbank hrun w hcal ((hwin.2.2 w hwindow).2 o ho).1 _
    · rename_i ho
      cases cause with
      | switch =>
        obtain ⟨hcount, hsums⟩ := (hwin.2.2 w hwindow).1 ho
        exact ⟨htable.congr rfl, State.WindowLaw.of_empty rfl hrun hcal hactive ho hcount hsums, hbank.congr rfl rfl⟩
      | time => exact ⟨htable, hwin, hbank⟩
      | interval => exact State.BillingLaw.congr' ⟨htable, hwin, hbank⟩ rfl rfl rfl

/-! ### Engine states -/

theorem State.takeExpiry_billingLaw {s : State} (h : s.BillingLaw) : s.takeExpiry.BillingLaw := by
  unfold State.takeExpiry
  split
  · unfold State.enterFailsafe
    dsimp only
    split
    · rename_i hstate
      obtain ⟨htable, hwin, hbank⟩ := h
      obtain ⟨hsome, hactive, hwindows⟩ := hwin
      have hrun : s.windowsRun = true := by
        simp only [State.windowsRun, decide_eq_true_eq]
        rw [hstate]
        decide
      refine ⟨htable.cancelRequests.congr (by simp), ⟨?_, ?_, ?_⟩, hbank.congr (by simp) (by simp [Tables.cancelRequests])⟩
      · simpa [State.windowsRun] using hsome.trans hrun
      · simpa [Tables.cancelRequests] using fun _ => hactive hrun
      · simpa [Tables.cancelRequests] using hwindows
    · exact h.congr' rfl rfl rfl
  · exact h

theorem State.startMetering_billingLaw {s : State} (h : s.BillingLaw) (hcal : s.tables.calActive.isSome = true)
    (hmeter : s.tables.meterActive.isSome = true) : s.startMetering.BillingLaw := by
  obtain ⟨htable, -, hbank⟩ := h
  have hengine : s.startMetering.engine =
      { s.engine with state := .metering, window := some s.emptyWindow, lastCreditedBand := none } := by
    simp only [State.startMetering]
    split <;> simp [State.startWatchdog]
  refine ⟨htable.congr (by simp), ?_, hbank.congr (by simp) (by simp)⟩
  refine State.WindowLaw.of_empty (w := s.emptyWindow) (by rw [hengine]) ?_ ?_ ?_ rfl rfl rfl
  · simp [State.windowsRun, hengine]
  · simpa using hcal
  · simpa using hmeter

theorem State.enterConfig_billingLaw {s : State} (htable : s.TableLaw) (hbank : s.BankLaw) : s.enterConfig.BillingLaw := by
  refine ⟨htable.congr (by simp [State.enterConfig, State.dropHandOvers]), State.WindowLaw.of_config ?_ ?_,
    hbank.congr (by simp [State.enterConfig, State.dropHandOvers]) (by simp [State.enterConfig, State.dropHandOvers])⟩
  · simp [State.enterConfig, State.dropHandOvers]
  · simp [State.enterConfig, State.dropHandOvers]

theorem State.evaluate_billingLaw {s : State} (h : s.BillingLaw) : s.evaluate.BillingLaw :=
  h.congr' (by simp) (by simp) (by simp)

/-- In CONFIG an install of sound pending copies keeps the three laws. -/
theorem State.install_billingLaw_of_config {s : State} (h : s.BillingLaw) (hwindow : s.engine.window = none)
    (hstate : s.engine.state = .config) (w : TableChoice) (b : Band)
    (hcal : w.cal = true → s.tables.pendingFault .cal = none)
    (hmeter : w.meter = true → s.tables.pendingFault .meter = none)
    (hcalendar : w.calendar = true → s.tables.pendingFault .calendar = none) : (s.install w b).BillingLaw := by
  obtain ⟨htable, -, hbank⟩ := h
  exact ⟨State.install_tableLaw htable w b hcal hmeter hcalendar,
    State.WindowLaw.of_config (by simpa using hwindow) (by simpa using hstate), State.install_bankLaw hbank w b hmeter⟩

theorem State.stopMetering_billingLaw {s : State} (h : s.BillingLaw) : s.stopMetering.BillingLaw := by
  have hconfig (t : State) (ht : t.BillingLaw) (b : Band) : (t.enterConfig.installRequested b).evaluate.BillingLaw := by
    have hentered := State.enterConfig_billingLaw ht.1 ht.2.2
    refine State.evaluate_billingLaw (State.install_billingLaw_of_config hentered ?_ ?_ _ b
      (hentered.1.pendingFault_of_request (name := .cal)) (hentered.1.pendingFault_of_request (name := .meter))
      (hentered.1.pendingFault_of_request (name := .calendar)))
    · simp [State.enterConfig, State.dropHandOvers]
    · simp [State.enterConfig, State.dropHandOvers]
  unfold State.stopMetering
  split
  · rename_i w hwindow
    split
    · rename_i o ho
      obtain ⟨htable, hwin, hbank⟩ := h
      obtain ⟨hrun, hcal, -⟩ := hwin.open_window hwindow
      have hclosed := State.closeWindow_billingLaw htable hbank hrun w hcal ((hwin.2.2 w hwindow).2 o ho).1 .stop
      exact State.evaluate_billingLaw (State.enterConfig_billingLaw hclosed.1 hclosed.2.2)
    · exact hconfig s h _
  · exact hconfig s h _

theorem State.resumeMetering_billingLaw {s : State} (h : s.BillingLaw) (hstate : s.engine.state = .failsafe) :
    s.resumeMetering.BillingLaw := by
  obtain ⟨htable, ⟨hsome, hactive, hwindows⟩, hbank⟩ := h
  have hrun : s.windowsRun = true := by simp [State.windowsRun, hstate]
  have htables : s.resumeMetering.tables = s.tables := by simp [State.resumeMetering, State.startWatchdog]
  have hengine : s.resumeMetering.engine = { s.engine with state := .metering } := by
    simp [State.resumeMetering, State.startWatchdog]
  refine ⟨htable.congr htables, ⟨?_, fun _ => by rw [htables]; exact hactive hrun, by rw [hengine, htables]; exact hwindows⟩,
    hbank.congr (by simp [State.resumeMetering, State.startWatchdog]) (by rw [htables])⟩
  simpa [State.windowsRun, hengine] using hsome.trans hrun

theorem State.engineReset_billingLaw {s : State} (h : s.BillingLaw) : s.engineReset.BillingLaw := by
  obtain ⟨htable, -, hbank⟩ := h
  have htables : s.engineReset.tables = s.tables.cancelRequests := by
    simp [State.engineReset, State.resetMonitor, State.dropHandOvers]
  have hengine : s.engineReset.engine = s.engine.reset := by
    simp [State.engineReset, State.resetMonitor, State.dropHandOvers]
  have hbank' : s.engineReset.bank = s.bank := by simp [State.engineReset, State.resetMonitor, State.dropHandOvers]
  exact ⟨htable.cancelRequests.congr htables, State.WindowLaw.of_config (by rw [hengine]; rfl) (by rw [hengine]; rfl),
    hbank.congr (by rw [hbank']) (by rw [htables]; rfl)⟩

end Sys2Proof.Machine

/-! # Every step keeps the laws of the tables, the window and the bank -/

namespace Sys2Proof.Machine

/-! ### The commands -/

theorem State.WindowLaw.window_none_of_config {s : State} (h : s.WindowLaw) (hstate : s.engine.state = .config) :
    s.engine.window = none := by
  obtain ⟨hsome, -, -⟩ := h
  simpa [State.windowsRun, hstate] using hsome

theorem phase_get_modify {α : Type} (p : PerPhase α) (x y : Phase) (f : α → α) :
    (p.modify x f).get y = if y = x then f (p.get x) else p.get y := by
  cases x <;> cases y <;> rfl

theorem Accounts.preload_residues (acc : Accounts) (t : PreloadTarget) (v : Nat) :
    (acc.preload t v).residues = acc.residues := by
  unfold preload
  dsimp only
  split <;> rfl

/-- A preloaded value below 2^48 keeps the range of the registers. -/
theorem Accounts.preload_registers {acc : Accounts} (h : ∀ r ∈ acc.registers, r < 2 ^ 48) (t : PreloadTarget) {v : Nat}
    (hv : v < 2 ^ 48) : ∀ r ∈ (acc.preload t v).registers, r < 2 ^ 48 := by
  obtain ⟨hbands, hgross⟩ := (acc.forall_registers_iff (· < 2 ^ 48)).mp h
  refine ((acc.preload t v).forall_registers_iff (· < 2 ^ 48)).mpr ?_
  have hset (registers : Vector Nat 8) (hall : ∀ c, registers.get c < 2 ^ 48) (b c : Band) :
      (registers.set b v).get c < 2 ^ 48 := by
    by_cases hc : c = b
    · subst hc
      rwa [vector_get_set_same]
    · rw [vector_get_set_other _ hc]
      exact hall c
  have hmodify (x y : Phase) :
      (((acc.gross.modify x fun g => { g with imp := v }).get y).imp < 2 ^ 48
          ∧ ((acc.gross.modify x fun g => { g with imp := v }).get y).exp < 2 ^ 48)
        ∧ ((acc.gross.modify x fun g => { g with exp := v }).get y).imp < 2 ^ 48
          ∧ ((acc.gross.modify x fun g => { g with exp := v }).get y).exp < 2 ^ 48 := by
    rw [phase_get_modify, phase_get_modify]
    split
    · exact ⟨⟨hv, (hgross x).2⟩, (hgross x).1, hv⟩
    · exact ⟨hgross y, hgross y⟩
  unfold preload
  dsimp only
  split
  · exact ⟨fun c => ⟨hset _ (fun c => (hbands c).1) _ c, (hbands c).2⟩, hgross⟩
  · exact ⟨fun c => ⟨(hbands c).1, hset _ (fun c => (hbands c).2) _ c⟩, hgross⟩
  · exact ⟨hbands, fun y => (hmodify _ y).1⟩
  · exact ⟨hbands, fun y => (hmodify _ y).2⟩

theorem preload_billingLaw (p : List Byte) {s : State} (h : s.BillingLaw) : (preload p s).state.BillingLaw := by
  unfold preload
  dsimp only
  split
  · exact h
  split
  · exact h
  split
  · rename_i hv
    obtain ⟨htable, hwin, hregisters, hzero, hresidues⟩ := h
    refine ⟨htable.congr rfl, hwin.congr rfl rfl rfl rfl, Accounts.preload_registers hregisters _ hv, ?_, ?_⟩
    · intro hnone
      rw [State.okay_state, Accounts.preload_residues]
      exact hzero hnone
    · intro m hm
      rw [State.okay_state, Accounts.preload_residues]
      exact hresidues m hm
  · exact h

theorem writeTable_billingLaw (p : List Byte) {s : State} (h : s.BillingLaw) : (writeTable p s).state.BillingLaw := by
  have hactive (name : TableName) (first : Nat) (bytes : List Byte) (hname : s.tables.request name = false) :
      ({ s with tables := s.tables.write name first bytes } : State).BillingLaw := by
    obtain ⟨htable, hwin, hbank⟩ := h
    exact ⟨htable.write hname first bytes, hwin.congr rfl rfl (by cases name <;> rfl) (by cases name <;> rfl),
      hbank.congr rfl (by cases name <;> rfl)⟩
  have hstaged (name : TableName) (first : Nat) (bytes : List Byte) :
      (writeStaged name first bytes s).state.BillingLaw := by
    unfold writeStaged
    split
    · exact h
    split
    · exact h
    · rename_i hrequest
      exact hactive name first bytes (Bool.eq_false_iff.mpr hrequest)
  unfold writeTable
  split
  · exact h
  · unfold writeTrigger
    split
    · exact h
    split
    · exact h
    split
    · exact hactive .trigger _ _ rfl
    · exact h
  · exact hstaged _ _ _
  · exact hstaged _ _ _
  · exact hstaged _ _ _

theorem setRequest_billingLaw {s : State} (h : s.BillingLaw) (name : TableName) (v : Bool)
    (hv : v = true → s.tables.pendingFault name = none) :
    ({ s with tables := s.tables.setRequest name v } : State).BillingLaw := by
  obtain ⟨htable, hwin, hbank⟩ := h
  exact ⟨htable.setRequest name v hv, hwin.congr rfl rfl (by cases name <;> rfl) (by cases name <;> rfl),
    hbank.congr rfl (by cases name <;> rfl)⟩

theorem applyStaged_billingLaw (name : TableName) (crc : BitVec 16) {s : State} (h : s.BillingLaw) :
    (applyStaged name crc s).state.BillingLaw := by
  unfold applyStaged
  split
  · exact h
  split
  · exact h
  split
  · exact h
  · rename_i hsound
    unfold acceptApply
    dsimp only
    split
    · rename_i hstate
      refine State.install_billingLaw_of_config h (h.2.1.window_none_of_config hstate) hstate name.only _ ?_ ?_ ?_
      all_goals
        cases name <;> simp [TableName.only, hsound]
    · exact setRequest_billingLaw h name true fun _ => hsound

theorem applyTable_billingLaw (p : List Byte) {s : State} (h : s.BillingLaw) : (applyTable p s).state.BillingLaw := by
  unfold applyTable
  dsimp only
  split
  · exact h
  · exact h
  · exact applyStaged_billingLaw _ _ h
  · exact applyStaged_billingLaw _ _ h
  · exact applyStaged_billingLaw _ _ h

theorem cancelApply_billingLaw (p : List Byte) {s : State} (h : s.BillingLaw) : (cancelApply p s).state.BillingLaw := by
  have hcancel (name : TableName) : (cancelStaged name s).state.BillingLaw := by
    unfold cancelStaged
    split
    · exact setRequest_billingLaw h name false fun hfalse => Bool.noConfusion hfalse
    · exact h
  unfold cancelApply
  split
  · exact h
  · exact h
  · exact hcancel _
  · exact hcancel _
  · exact hcancel _

/-- A command leaves the three laws: those that touch a table, the window or the bank by their own lemmas, the others since
they touch none of the three. -/
theorem owner_billingLaw (c : Instr) (p : List Byte) {s : State} (hwrites : c.writes = true) (h : s.BillingLaw) :
    (c.owner p s).state.BillingLaw := by
  cases c with
  | start =>
    simp only [Instr.owner, start]
    split
    · exact h
    split
    · exact h
    · rename_i hready
      rw [not_or] at hready
      exact State.startMetering_billingLaw h (Option.isSome_iff_ne_none.mpr hready.1)
        (Option.isSome_iff_ne_none.mpr hready.2)
  | stop =>
    simp only [Instr.owner, stop]
    split
    · exact h
    · exact State.stopMetering_billingLaw h
  | resume =>
    simp only [Instr.owner, resume]
    split
    · exact State.resumeMetering_billingLaw h ‹_›
    · exact h
  | engineReset => exact State.engineReset_billingLaw h
  | snapshot => exact h
  | preload => exact preload_billingLaw p h
  | setTime =>
    simp only [Instr.owner, setTime]
    split
    · exact h
    · exact h.congr' (by simp [State.loadTime]) (by simp [State.loadTime]) (by simp [State.loadTime])
  | addSpecialDay =>
    simp only [Instr.owner, addSpecialDay, State.editDays]
    repeat' split
    all_goals exact h.congr' (by simp) (by simp) (by simp)
  | removeSpecialDay =>
    simp only [Instr.owner, removeSpecialDay, State.editDays]
    split <;> exact h.congr' (by simp) (by simp) (by simp)
  | resetDemand =>
    simp only [Instr.owner, resetDemand, State.okay_state, State.restartOneShot]
    repeat' split
    all_goals exact h.congr' (by simp) (by simp) (by simp)
  | writeTable => exact writeTable_billingLaw p h
  | applyTable => exact applyTable_billingLaw p h
  | cancelApply => exact cancelApply_billingLaw p h
  | clearFlags =>
    simp only [Instr.owner, clearFlags]
    split <;> exact h
  | setMask =>
    simp only [Instr.owner, setMask]
    split <;> exact h
  | captureArm =>
    simp only [Instr.owner, captureArm]
    repeat' split
    all_goals exact h
  | captureTrigger =>
    simp only [Instr.owner, captureTrigger]
    split <;> exact h
  | captureStop =>
    simp only [Instr.owner, captureStop]
    split <;> exact h
  | linkTestStart =>
    simp only [Instr.owner, linkTestStart]
    repeat' split
    all_goals exact h.congr' (by simp) (by simp) (by simp)
  | linkTestStop =>
    simp only [Instr.owner, linkTestStop]
    repeat' split
    all_goals exact h.congr' (by simp) (by simp) (by simp)
  | _ => exact Bool.noConfusion hwrites

/-! ### Every operation -/

theorem tableLaw_reset : State.reset.TableLaw := by
  refine ⟨?_, ?_, ?_, ?_, ?_, by decide, rfl, ⟨rfl, rfl, ?_, ?_, by decide⟩, ?_⟩
  · intro t ht
    cases ht
  · intro m hm
    cases hm
  · intro t ht
    cases ht
  · intro name hname
    cases name <;> cases hname
  · intro x
    cases x <;> decide
  · intro p hp
    rw [List.eq_of_mem_replicate hp]
    decide
  · intro d hd
    rw [List.eq_of_mem_replicate hd]
    decide
  · intro t ht
    cases ht

theorem bankLaw_reset : State.reset.BankLaw := by
  refine ⟨fun r hr => ?_, fun _ => accountsAtPowerOn_residues, fun m hm => ?_⟩
  · have hzero : r = 0 := accountsAtPowerOn_registers r hr
    rw [hzero]
    decide
  · cases hm

theorem billingLaw_reset : State.reset.BillingLaw :=
  ⟨tableLaw_reset, State.WindowLaw.of_config rfl rfl, bankLaw_reset⟩

theorem State.judgeDownlink_billingLaw {s : State} (h : s.BillingLaw) (f : LineFrame) :
    (s.judgeDownlink f).BillingLaw := by
  unfold State.judgeDownlink State.acceptCommand
  split
  · exact h.congr' (by simp) (by simp) (by simp)
  · split
    · exact (State.takeExpiry_billingLaw h).congr' rfl rfl rfl
    · exact h.congr' (by simp) (by simp) (by simp)
  · exact h.congr' rfl rfl rfl
  · exact h.congr' rfl rfl rfl

/-- Every operation keeps the three laws. -/
theorem State.BillingLaw.kept : Kept State.BillingLaw where
  pending _ _ h := h
  powerOnReset _ _ := billingLaw_reset.congr' rfl rfl rfl
  resetEnds _ h := h
  periodEnd _ _ h := h.congr' (by simp) (by simp) (by simp)
  captureTerminal _ h := h.congr' (by simp) (by simp) (by simp)
  timebaseEnd _ _ h := h.congr' (by simp) (by simp) (by simp)
  terminal _ h := h.congr' (by simp) (by simp) (by simp)
  rollover _ h := h.congr' (by simp) (by simp) (by simp)
  strobe _ h := (State.takeExpiry_billingLaw h).congr' (by simp [State.strobe]) (by simp [State.strobe])
    (by simp [State.strobe])
  receiveFrame _ _ _ h := h.congr' (by simp) (by simp) (by simp)
  releaseIfDue _ h := h.congr' (by simp) (by simp) (by simp)
  takeReleased _ h := h.congr' (by simp) (by simp) (by simp)
  takeCompleted s h := by
    unfold State.takeCompleted
    split
    · exact h
    · refine State.processSet_billingLaw (State.rebandEmpty_billingLaw ?_) _
      exact h
  takeRequest s c h := by
    unfold State.takeRequest
    split
    · refine State.requestClose_billingLaw ?_ c
      exact h
    · exact h
  takeCredit _ h := h.congr' (by simp) (by simp) (by simp)
  takeNotice _ h := h.congr' (by simp) (by simp) (by simp)
  takeExpiry _ h := State.takeExpiry_billingLaw h
  downlinkFrame s f h := by
    unfold State.downlinkFrame
    split
    · exact h.congr' rfl rfl rfl
    · exact (State.judgeDownlink_billingLaw h _).congr' rfl rfl rfl
    · exact (State.judgeDownlink_billingLaw h _).congr' rfl rfl rfl
  downlinkIdleLine s h := by
    unfold State.downlinkIdleLine
    split
    · exact h.congr' rfl rfl rfl
    · exact h
    · exact (State.judgeDownlink_billingLaw h _).congr' rfl rfl rfl
  choose _ h := h.congr' (by simp) (by simp) (by simp)
  withCommands _ _ _ _ h := h
  respond _ _ _ _ _ h := h
  owner c p _ hwrites h := owner_billingLaw c p hwrites h

/-- Settles O10: the laws are kept by every operation, so by every step. -/
theorem everyStepKeepsTheBillingLaw : Obligations.EveryStepKeepsTheBillingLaw :=
  fun _ _ => State.BillingLaw.kept.step

end Sys2Proof.Machine

/-! # The fault monitor's two operations, and the frames of the up direction (R141 to R147, R166) -/

namespace Sys2Proof.Machine

/-- Settles O4: the three base laws are facts about the power-on literals. -/
theorem resetStateMeetsEveryLaw : Obligations.ResetStateMeetsEveryLaw := by
  refine ⟨⟨rfl, rfl, rfl⟩, ⟨Nat.zero_le _, Nat.zero_le _, Nat.zero_le _, Nat.zero_le _⟩, ⟨Nat.zero_le _, List.Pairwise.nil, fun hset => Bool.noConfusion hset⟩,
    ⟨⟨trivial, fun n hn => ?_⟩, fun x => ?_⟩, billingLaw_reset⟩
  · exact absurd hn (by simp [State.reset, alignerAtPowerOn])
  · exact Lane.queueLaw_of_empty (by cases x <;> rfl)

/-! ### Raises and reports -/

/-- A raise of a flag that is not urgent, or that the mask holds back, makes no notice. -/
theorem State.raise_urgent_of_masked (s : State) (f : Flag)
    (h : f.urgent = false ∨ s.monitor.mask.getLsbD f.index = true) : (s.raise f).link.urgent = s.link.urgent := by
  have hno : (f.urgent && !FlagSet.names s.monitor.mask f) = false := by
    rcases h with h | h <;> simp [FlagSet.names, h, -BitVec.getLsbD_eq_getElem]
  simp [State.raise, hno]

theorem State.raise_urgent (s : State) (f : Flag) (hurgent : f.urgent = true)
    (hmask : s.monitor.mask.getLsbD f.index = false) : (s.raise f).link.urgent = some (s.notify f) := by
  have hyes : (f.urgent && !FlagSet.names s.monitor.mask f) = true := by
    simp [FlagSet.names, hurgent, hmask, -BitVec.getLsbD_eq_getElem]
  simp [State.raise, hyes]

/-- Settles O11: the raise field by field, the reports by the condition that stood. -/
theorem raisesAndReportsLatchAndNotify : Obligations.RaisesAndReportsLatchAndNotify := by
  intro s f
  refine ⟨rfl, rfl, ?_, s.raise_urgent_of_masked f, fun hurgent hmask => ⟨fun hnone => ?_, fun n hn => ?_⟩,
    fun hfalse => ⟨?_, s.report_of_names f false hfalse⟩,
    fun htrue => ⟨s.report_of_names f true htrue, s.report_false f⟩⟩
  · simp only [State.raise]
    split <;> rfl
  · rw [s.raise_urgent f hurgent hmask, State.notify, hnone]
  · rw [s.raise_urgent f hurgent hmask, State.notify, hn]
    rfl
  · have hfalse' : FlagSet.names s.monitor.conditions f = false := hfalse
    simp [State.report, State.raiseIf, hfalse', Monitor.setCondition]

/-! ### A good frame and its fields -/

theorem beInt_eq_toInt {l : List Byte} {n : Nat} (w : BitVec n) (hn : 2 ^ n = 256 ^ l.length) (h : beNat l = w.toNat) :
    beInt l = w.toInt := by
  simp only [beInt, BitVec.toInt, h, ← hn]

theorem beNat_three (a b c : Byte) : beNat [a, b, c] = (a ++ b ++ c).toNat := by
  rw [toNat_append_byte, toNat_append_byte]
  simp [beNat]

theorem beNat_six (a b c d e f : Byte) : beNat [a, b, c, d, e, f] = (a ++ b ++ c ++ d ++ e ++ f).toNat := by
  simp only [toNat_append_byte]
  simp [beNat]

/-- The strobe index of a lane frame: the low four bits of its second byte, and its third (R166). -/
theorem strobeIndex_of_bytes (a b : Byte) : BitVec.ofNat 12 (beNat [a, b]) = a.extractLsb' 0 4 ++ b := by
  apply BitVec.eq_of_toNat_eq
  have ha := a.isLt
  have hb := b.isLt
  simp only [beNat, List.foldl, BitVec.toNat_ofNat, toNat_append_byte, BitVec.extractLsb'_toNat]
  omega

/-- Eleven characters with good stop bits and a matching CRC are a frame with the fields of its bytes. -/
theorem parseLaneFrame_of_good {f : LineFrame} (hstop : f.stopBits = true) (hlength : f.chars.length = 11)
    (hcrc : crc16 (f.chars.take 9) = BitVec.ofNat 16 (beNat (f.chars.drop 9))) :
    ∃ g, parseLaneFrame f = some g
      ∧ g.kind = (f.chars.getD 0 0).toNat / 32 ∧ g.lane = (f.chars.getD 0 0).toNat / 8 % 4
      ∧ g.v = (f.chars.getD 3 0 ++ f.chars.getD 4 0 ++ f.chars.getD 5 0).toInt
      ∧ g.i = (f.chars.getD 6 0 ++ f.chars.getD 7 0 ++ f.chars.getD 8 0).toInt
      ∧ g.data = f.chars.getD 3 0 ++ f.chars.getD 4 0 ++ f.chars.getD 5 0 ++ f.chars.getD 6 0 ++ f.chars.getD 7 0
          ++ f.chars.getD 8 0
      ∧ g.index = (f.chars.getD 1 0).extractLsb' 0 4 ++ f.chars.getD 2 0
      ∧ g.vOvr = (f.chars.getD 0 0).getLsbD 2 ∧ g.iOvr = (f.chars.getD 0 0).getLsbD 1
      ∧ g.restart = (f.chars.getD 1 0).getLsbD 7 ∧ g.vFault = (f.chars.getD 1 0).getLsbD 6
      ∧ g.iFault = (f.chars.getD 1 0).getLsbD 5 := by
  unfold parseLaneFrame
  rw [if_pos (by simp [hstop, hlength, hcrc])]
  refine ⟨_, rfl, rfl, rfl, ?_, ?_, ?_, ?_, rfl, rfl, rfl, rfl, rfl⟩
  all_goals
    match hchars : f.chars, hlength with
    | [c0, c1, c2, c3, c4, c5, c6, c7, c8, c9, c10], _ => ?_
  · exact beInt_eq_toInt (l := [c3, c4, c5]) _ (by norm_num) (beNat_three c3 c4 c5)
  · exact beInt_eq_toInt (l := [c6, c7, c8]) _ (by norm_num) (beNat_three c6 c7 c8)
  · have hnat : BitVec.ofNat 48 (beNat [c3, c4, c5, c6, c7, c8]) = c3 ++ c4 ++ c5 ++ c6 ++ c7 ++ c8 := by
      rw [beNat_six]
      exact BitVec.ofNat_toNat _ _ |>.trans (BitVec.setWidth_eq _)
    exact hnat
  · exact strobeIndex_of_bytes c1 c2

/-- The clamp marks a code that it moves. -/
theorem clampCode_ne_iff (x : Int) : clampCode x ≠ x ↔ x < -524288 ∨ 524287 < x := by
  unfold clampCode
  omega

/-- Settles O14: the fields from the bytes, the entry from the fields. -/
theorem sampleEntryIsTheClampedFrame : Obligations.SampleEntryIsTheClampedFrame := by
  intro f hstop hlength hcrc
  obtain ⟨g, hg, hkind, hlane, hv, hi, hdata, hindex, hvOvr, hiOvr, hrestart, hvFault, hiFault⟩ :=
    parseLaneFrame_of_good hstop hlength hcrc
  have hmoved (b : Bool) (x : Int) :
      (b || decide (clampCode x ≠ x)) = (b || decide (x < -524288) || decide (524287 < x)) := by
    simp only [clampCode_ne_iff, Bool.decide_or, Bool.or_assoc]
  exact ⟨g, hg, hkind, hlane, hv, hi, hdata, hindex, rfl, rfl, hvOvr ▸ hmoved _ _, hiOvr ▸ hmoved _ _, hrestart, hvFault,
    hiFault⟩

end Sys2Proof.Machine

/-! # What a change of a lane reports (R18, R33) -/

namespace Sys2Proof.Machine

/-! ### Reports of other flags -/

theorem State.names_report (s : State) (f : Flag) (v : Bool) (g : Flag) :
    FlagSet.names (s.report f v).monitor.conditions g =
      if g.index = f.index then v else FlagSet.names s.monitor.conditions g := by
  simp only [FlagSet.names, State.report_conditions, Monitor.setCondition_getLsbD]

/-- Lane x becomes `new` and, where the lane leaves UP and SUSPECT or its voltage channel becomes stuck, its phase's memory is
emptied; nothing is reported yet (R33). -/
def State.withChangedLane (s : State) (x : Phase) (new : Lane) : State :=
  (if ((s.lanes.get x).state.used && !new.state.used) || (!(s.lanes.get x).voltage.stuck && new.voltage.stuck) then
    s.withEmptyMemory x else s).withLane x new

@[simp] theorem State.withChangedLane_monitor (s : State) (x : Phase) (new : Lane) :
    (s.withChangedLane x new).monitor = s.monitor := by
  simp only [State.withChangedLane, State.withLane]
  split <;> rfl

theorem State.changeLane_eq_reports (s : State) (x : Phase) (new : Lane) :
    s.changeLane x new =
      ((((s.withChangedLane x new).report (.laneLost x) new.state.isLost).report (.laneSuspect x)
        new.state.isSuspect).report (.vStuck x) new.voltage.stuck).report (.iStuck x) new.current.stuck := by
  have hreports (t : State) (ht : t.lanes.get x = new) : t.reportLane x =
      (((t.report (.laneLost x) new.state.isLost).report (.laneSuspect x) new.state.isSuspect).report (.vStuck x)
        new.voltage.stuck).report (.iStuck x) new.current.stuck := by
    rw [← ht]
    rfl
  rw [State.changeLane, State.withChangedLane]
  dsimp only
  split <;> exact hreports _ (PerPhase.get_set_same _ _ _)

/-! ### Under the monitor's law -/

section LaneChange

variable {s : State} (hs : s.MonitorLaw) (x : Phase) (new : Lane)

include hs

theorem State.MonitorLaw.names_laneLost :
    FlagSet.names s.monitor.conditions (.laneLost x) = (s.lanes.get x).state.isLost := by
  rw [hs.1, State.liveConditions_laneLost]

theorem State.MonitorLaw.names_laneSuspect :
    FlagSet.names s.monitor.conditions (.laneSuspect x) = (s.lanes.get x).state.isSuspect := by
  rw [hs.1, State.liveConditions_laneSuspect]

theorem State.MonitorLaw.names_vStuck :
    FlagSet.names s.monitor.conditions (.vStuck x) = (s.lanes.get x).voltage.stuck := by
  rw [hs.1, State.liveConditions_vStuck]

theorem State.MonitorLaw.names_iStuck :
    FlagSet.names s.monitor.conditions (.iStuck x) = (s.lanes.get x).current.stuck := by
  rw [hs.1, State.liveConditions_iStuck]

/-- A change that leaves the lane's state is reported for the two channels alone. -/
theorem State.changeLane_of_state (hlost : new.state.isLost = (s.lanes.get x).state.isLost)
    (hsuspect : new.state.isSuspect = (s.lanes.get x).state.isSuspect) :
    s.changeLane x new =
      ((s.withChangedLane x new).report (.vStuck x) new.voltage.stuck).report (.iStuck x) new.current.stuck := by
  rw [State.changeLane_eq_reports, State.report_of_names _ (.laneLost x), State.report_of_names _ (.laneSuspect x)]
  · rw [State.withChangedLane_monitor, hs.names_laneSuspect, hsuspect]
  · rw [State.withChangedLane_monitor, hs.names_laneLost, hlost]

/-- A change that leaves both channels' stuck states is reported for the lane's state alone. -/
theorem State.changeLane_of_channels (hv : new.voltage.stuck = (s.lanes.get x).voltage.stuck)
    (hi : new.current.stuck = (s.lanes.get x).current.stuck) :
    s.changeLane x new =
      ((s.withChangedLane x new).report (.laneLost x) new.state.isLost).report (.laneSuspect x) new.state.isSuspect := by
  rw [State.changeLane_eq_reports]
  generalize hreported : ((s.withChangedLane x new).report (.laneLost x) new.state.isLost).report (.laneSuspect x)
    new.state.isSuspect = t
  have hnames (f : Flag) (hlost : f.index ≠ (Flag.laneLost x).index) (hsuspect : f.index ≠ (Flag.laneSuspect x).index) :
      FlagSet.names t.monitor.conditions f = FlagSet.names s.monitor.conditions f := by
    rw [← hreported, State.names_report, if_neg hsuspect, State.names_report, if_neg hlost,
      State.withChangedLane_monitor]
  have hvnames : FlagSet.names t.monitor.conditions (.vStuck x) = new.voltage.stuck := by
    rw [hnames _ (by simp [Flag.index]) (by simp [Flag.index]), hs.names_vStuck, hv]
  have hinames : FlagSet.names t.monitor.conditions (.iStuck x) = new.current.stuck := by
    rw [hnames _ (by simp [Flag.index]) (by simp [Flag.index]), hs.names_iStuck, hi]
  rw [State.report_of_names _ _ _ hvnames, State.report_of_names _ _ _ hinames]

/-- A change that leaves the lane's state and both channels' stuck states is the change of the record and nothing else. -/
theorem State.changeLane_of_same (hstate : new.state = (s.lanes.get x).state)
    (hv : new.voltage.stuck = (s.lanes.get x).voltage.stuck) (hi : new.current.stuck = (s.lanes.get x).current.stuck) :
    s.changeLane x new = s.withLane x new := by
  have hwith : s.withChangedLane x new = s.withLane x new := by simp [State.withChangedLane, hstate, hv]
  rw [State.changeLane_of_channels hs x new hv hi, hwith, State.report_of_names, State.report_of_names]
  · exact (hs.names_laneLost x).trans (by rw [hstate])
  · rw [State.report_of_names]
    · exact (hs.names_laneSuspect x).trans (by rw [hstate])
    · exact (hs.names_laneLost x).trans (by rw [hstate])

end LaneChange

end Sys2Proof.Machine

/-! # Lane receivers: the judging of a frame and of a quality period (R3 to R7, R10 to R13) -/

namespace Sys2Proof.Machine

/-! ### More shapes of a change of lane -/

section LaneChange

variable {s : State} (hs : s.MonitorLaw) (x : Phase) (new : Lane)

include hs

/-- A change that neither enters nor leaves LOST. -/
theorem State.changeLane_of_lost (hlost : new.state.isLost = (s.lanes.get x).state.isLost) :
    s.changeLane x new =
      (((s.withChangedLane x new).report (.laneSuspect x) new.state.isSuspect).report (.vStuck x)
        new.voltage.stuck).report (.iStuck x) new.current.stuck := by
  rw [State.changeLane_eq_reports, State.report_of_names _ (.laneLost x)]
  rw [State.withChangedLane_monitor, hs.names_laneLost, hlost]

/-- A change that neither enters nor leaves SUSPECT. -/
theorem State.changeLane_of_suspect (hsuspect : new.state.isSuspect = (s.lanes.get x).state.isSuspect) :
    s.changeLane x new =
      (((s.withChangedLane x new).report (.laneLost x) new.state.isLost).report (.vStuck x)
        new.voltage.stuck).report (.iStuck x) new.current.stuck := by
  rw [State.changeLane_eq_reports, State.report_of_names _ (.laneSuspect x)]
  rw [State.names_report, if_neg (by simp [Flag.index]), State.withChangedLane_monitor, hs.names_laneSuspect, hsuspect]

/-- A change that neither enters nor leaves LOST and leaves both channels' stuck states. -/
theorem State.changeLane_of_lost_of_channels (hlost : new.state.isLost = (s.lanes.get x).state.isLost)
    (hv : new.voltage.stuck = (s.lanes.get x).voltage.stuck) (hi : new.current.stuck = (s.lanes.get x).current.stuck) :
    s.changeLane x new = (s.withChangedLane x new).report (.laneSuspect x) new.state.isSuspect := by
  rw [State.changeLane_of_channels hs x new hv hi, State.report_of_names _ (.laneLost x)]
  rw [State.withChangedLane_monitor, hs.names_laneLost, hlost]

end LaneChange

theorem State.withChangedLane_of_kept {s : State} {x : Phase} {new : Lane}
    (hused : new.state.used = (s.lanes.get x).state.used ∨ (s.lanes.get x).state.used = false)
    (hv : new.voltage.stuck = (s.lanes.get x).voltage.stuck) : s.withChangedLane x new = s.withLane x new := by
  rw [State.withChangedLane, if_neg]
  rcases hused with hused | hused <;> simp [hused, hv]

/-! ### The counters of a lane -/

theorem Lane.crcError_eq (l : Lane) :
    l.crcError = { l with
      counters := { l.counters with crcErrors := min (l.counters.crcErrors + 1) 4294967295 }
      periodErrors := if l.state.waited then min (l.periodErrors + 1) 65535 else l.periodErrors } := by
  simp only [Lane.crcError, satInc_eq_min]
  rfl

theorem Lane.countLate_eq (l : Lane) :
    l.countLate = { l with counters := { l.counters with late := min (l.counters.late + 1) 4294967295 } } := by
  simp only [Lane.countLate, satInc_eq_min]
  rfl

/-! ### A frame at a receiver -/

theorem exec_upDirectionFrame {s : State} (hs : s.Ready) (x : Phase) (f : LineFrame) :
    exec (.upDirectionFrame x f) s = .next (s.receiveFrame x f) :=
  congrArg Host.Outcome.next (s.after_of_ready hs _)

theorem State.receiveFrame_of_off {s : State} {x : Phase} (h : (s.lanes.get x).state = .off) (f : LineFrame) :
    s.receiveFrame x f = s :=
  if_pos h

theorem State.receiveFrame_of_parse {s : State} {x : Phase} {f : LineFrame} {g : UpLaneFrame}
    (hon : (s.lanes.get x).state ≠ .off) (hg : parseLaneFrame f = some g) : s.receiveFrame x f = s.judgeFrame x g := by
  simp [State.receiveFrame, hon, hg]

theorem parseLaneFrame_of_bad {f : LineFrame}
    (h : f.stopBits = false ∨ f.chars.length ≠ 11
      ∨ crc16 (f.chars.take 9) ≠ BitVec.ofNat 16 (beNat (f.chars.drop 9))) : parseLaneFrame f = none := by
  unfold parseLaneFrame
  rw [if_neg]
  rcases h with h | h | h <;> simp [h]

/-- Settles O12: a broken frame moves two counters of the lane record, and nothing that the lane reports. -/
theorem upFrameWithCrcErrorIsCounted : Obligations.UpFrameWithCrcErrorIsCounted := by
  intro x f s hready hlaw
  refine ⟨fun hoff => ?_, fun hon hbad => ?_⟩
  · rw [exec_upDirectionFrame hready, State.receiveFrame_of_off hoff]
  · have hreceive : s.receiveFrame x f = s.changeLane x (s.lanes.get x).crcError := by
      simp [State.receiveFrame, hon, parseLaneFrame_of_bad hbad]
    rw [exec_upDirectionFrame hready, hreceive, State.changeLane_of_same hlaw x (s.lanes.get x).crcError rfl rfl rfl,
      Lane.crcError_eq]

/-- An open index is at most two strobes behind the oldest (R23). -/
theorem Aligner.rangeLaw.distance_lt {al : Aligner} (h : al.rangeLaw) {n : StrobeIndex} (hn : n ∈ al.openRange) :
    (n - al.oldest).toNat < 3 := by
  obtain ⟨hgaps, -⟩ := h
  unfold Aligner.oldest
  match hrange : al.openRange with
  | [] => simp [hrange] at hn
  | [m] =>
    rw [hrange, List.mem_singleton] at hn
    simp [hn]
  | [m, k] =>
    simp only [hrange] at hgaps
    simp only [hrange, List.mem_cons, List.not_mem_nil, or_false] at hn
    simp only [List.headD_cons]
    bv_omega
  | [m, k, j] =>
    simp only [hrange] at hgaps
    simp only [hrange, List.mem_cons, List.not_mem_nil, or_false] at hn
    simp only [List.headD_cons]
    bv_omega
  | _ :: _ :: _ :: _ :: _ => simp [hrange] at hgaps

theorem Aligner.rangeLaw.inRange_eq_false {al : Aligner} (h : al.rangeLaw) {n : StrobeIndex} (hn : n ∉ al.openRange) :
    al.inRange n = false := by
  rw [Bool.eq_false_iff, ne_eq, Aligner.inRange_iff h]
  exact hn

/-- Settles O17: a late frame moves one counter. -/
theorem lateSampleIsOnlyCounted : Obligations.LateSampleIsOnlyCounted := by
  rintro x f g s l hready hlaw ⟨hrange, -⟩ rfl hg hkind hlane hlate
  have hon : (s.lanes.get x).state ≠ .off := by
    rcases hlate with htest | ⟨hon, -⟩
    · simp [htest]
    · exact hon
  have hjudge : s.judgeFrame x g = s.changeLane x (s.lanes.get x).countLate := by
    have hidentity : ¬ (g.lane ≠ laneId x ∨ (g.kind ≠ 4 ∧ g.kind ≠ 5)) := by simp [laneId, hlane, hkind]
    have hsample : ¬ g.kind = 5 := by simp [hkind]
    simp only [State.judgeFrame, if_neg hidentity, if_neg hsample]
    split
    · rfl
    · rename_i htest
      obtain ⟨-, hdistance⟩ := hlate.resolve_left htest
      have hout : g.index ∉ s.aligner.openRange := fun hin => absurd (hrange.distance_lt hin) (by omega)
      have hclamped : (clampFrame g).index = g.index := rfl
      simp only [State.judgeSample, hclamped, hrange.inRange_eq_false hout]
      rw [if_neg (by decide), if_pos hdistance]
  rw [exec_upDirectionFrame hready, State.receiveFrame_of_parse hon hg, hjudge,
    State.changeLane_of_same hlaw x (s.lanes.get x).countLate rfl rfl rfl, Lane.countLate_eq]

/-! ### Sequence errors (R6) -/

/-- A lane that the aligner does not wait for counts a sequence error and nothing else. -/
theorem State.sequenceError_of_notWaited {s : State} (hs : s.MonitorLaw) {x : Phase}
    (hwaited : (s.lanes.get x).state.waited = false) :
    s.sequenceError x = s.withLane x { s.lanes.get x with
      counters := { (s.lanes.get x).counters with
        sequenceErrors := min ((s.lanes.get x).counters.sequenceErrors + 1) 4294967295 } } := by
  have hcount : (s.lanes.get x).countSequenceError = { s.lanes.get x with
      counters := { (s.lanes.get x).counters with
        sequenceErrors := min ((s.lanes.get x).counters.sequenceErrors + 1) 4294967295 } } := by
    simp only [Lane.countSequenceError, hwaited, satInc_eq_min]
    rfl
  simp only [State.sequenceError, hcount, Lane.resyncDue, hwaited, Bool.false_and]
  exact State.changeLane_of_same hs x _ rfl rfl rfl

/-- The counts of a sequence error in SEEK, UP and SUSPECT. -/
theorem Lane.countSequenceError_of_waited {l : Lane} (hwaited : l.state.waited = true) :
    l.countSequenceError = { l with
      counters := { l.counters with sequenceErrors := min (l.counters.sequenceErrors + 1) 4294967295 }
      periodErrors := min (l.periodErrors + 1) 65535, sequenceRun := l.sequenceRun + 1 } := by
  simp only [Lane.countSequenceError, hwaited, satInc_eq_min]
  rfl

theorem State.sequenceError_of_run {s : State} (hs : s.MonitorLaw) {x : Phase}
    (hwaited : (s.lanes.get x).state.waited = true) (hrun : (s.lanes.get x).sequenceRun < 3) :
    s.sequenceError x = s.withLane x { s.lanes.get x with
      counters := { (s.lanes.get x).counters with
        sequenceErrors := min ((s.lanes.get x).counters.sequenceErrors + 1) 4294967295 }
      periodErrors := min ((s.lanes.get x).periodErrors + 1) 65535, sequenceRun := (s.lanes.get x).sequenceRun + 1 } := by
  have hnot : ¬ 4 ≤ (s.lanes.get x).sequenceRun + 1 := by omega
  simp only [State.sequenceError, Lane.countSequenceError_of_waited hwaited, Lane.resyncDue, hwaited, hnot,
    decide_false, Bool.and_false]
  exact State.changeLane_of_same hs x _ rfl rfl rfl

/-- The fourth sequence error in a row resyncs the lane. -/
theorem State.sequenceError_of_resync {s : State} (hs : s.MonitorLaw) {x : Phase} {l : Lane} (hl : l = s.lanes.get x)
    (hwaited : l.state.waited = true) (hrun : l.sequenceRun = 3) :
    s.sequenceError x =
      (((if l.state = .seek then s else s.withEmptyMemory x).withLane x
        { l with
          state := .seek, queue := [], presentRun := 0, sequenceRun := 0, periodPosition := 0, periodErrors := 0
          voltage := { l.voltage with previous := none, equalRun := 0 }
          current := { l.current with previous := none, equalRun := 0 }
          counters := { l.counters with
            sequenceErrors := min (l.counters.sequenceErrors + 1) 4294967295
            resyncs := min (l.counters.resyncs + 1) 4294967295 } }).report (.laneSuspect x) false).raise
              (.laneResync x) := by
  subst hl
  have hlost : LaneState.seek.isLost = (s.lanes.get x).state.isLost := by
    cases hstate : (s.lanes.get x).state <;> simp_all [LaneState.isLost, LaneState.waited]
  have hnew : ((s.lanes.get x).countSequenceError).resync =
      { s.lanes.get x with
        state := .seek, queue := [], presentRun := 0, sequenceRun := 0, periodPosition := 0, periodErrors := 0
        voltage := { (s.lanes.get x).voltage with previous := none, equalRun := 0 }
        current := { (s.lanes.get x).current with previous := none, equalRun := 0 }
        counters := { (s.lanes.get x).counters with
          sequenceErrors := min ((s.lanes.get x).counters.sequenceErrors + 1) 4294967295
          resyncs := min ((s.lanes.get x).counters.resyncs + 1) 4294967295 } } := by
    rw [Lane.countSequenceError_of_waited hwaited]
    simp only [Lane.resync, satInc_eq_min]
    rfl
  have hdue : ((s.lanes.get x).countSequenceError).resyncDue = true := by
    rw [Lane.countSequenceError_of_waited hwaited]
    simp [Lane.resyncDue, hwaited, hrun]
  have hmemory (new : Lane) (hstate : new.state = .seek) (hv : new.voltage.stuck = (s.lanes.get x).voltage.stuck) :
      s.withChangedLane x new = (if (s.lanes.get x).state = .seek then s else s.withEmptyMemory x).withLane x new := by
    cases hold : (s.lanes.get x).state <;>
      simp_all [State.withChangedLane, LaneState.used, LaneState.waited]
  simp only [State.sequenceError, hdue, if_true, hnew]
  rw [State.changeLane_of_lost_of_channels hs x]
  · rw [hmemory]
    · rfl
    · rfl
    · rfl
  · exact hlost
  · rfl
  · rfl

/-- The frames of a wrong identity or strobe index. -/
theorem State.receiveFrame_of_wrongIdentity {s : State} {x : Phase} {f : LineFrame} {g : UpLaneFrame}
    (hon : (s.lanes.get x).state ≠ .off) (hg : parseLaneFrame f = some g)
    (hwrong : g.lane ≠ phaseNumber x + 1 ∨ (g.kind ≠ 4 ∧ g.kind ≠ 5)
      ∨ (g.kind = 5 ∧ (s.lanes.get x).state ≠ .test)
      ∨ (g.kind = 4 ∧ (s.lanes.get x).state ≠ .test ∧ s.RangeLaw
        ∧ ((∃ e ∈ (s.lanes.get x).queue, e.index = g.index)
          ∨ (g.index ∉ s.aligner.openRange ∧ (g.index - s.aligner.oldest).toNat < 4088)))) :
    s.receiveFrame x f = s.sequenceError x := by
  rw [State.receiveFrame_of_parse hon hg]
  by_cases hidentity : g.lane ≠ laneId x ∨ (g.kind ≠ 4 ∧ g.kind ≠ 5)
  · simp only [State.judgeFrame, if_pos hidentity]
  · simp only [State.judgeFrame, if_neg hidentity]
    rcases hwrong with hlane | hkind | ⟨hkind, htest⟩ | ⟨hkind, htest, hrange, hindex⟩
    · exact absurd (Or.inl hlane) hidentity
    · exact absurd (Or.inr hkind) hidentity
    · rw [if_pos hkind, if_neg htest]
    · rw [if_neg (by simp [hkind]), if_neg htest]
      obtain ⟨hlaw, hqueues⟩ := hrange
      have hclamped : (clampFrame g).index = g.index := rfl
      simp only [State.judgeSample, hclamped]
      rcases hindex with ⟨e, he, heq⟩ | ⟨hout, hdistance⟩
      · obtain ⟨-, hopen, -⟩ := hqueues x
        have hin : s.aligner.inRange g.index = true := (Aligner.inRange_iff hlaw _).mpr (heq ▸ hopen e he)
        have hany : (s.lanes.get x).queue.any (fun d => d.index == g.index) = true :=
          List.any_eq_true.mpr ⟨e, he, by simp [heq]⟩
        rw [if_pos hin, if_pos hany]
      · rw [hlaw.inRange_eq_false hout, if_neg (by decide), if_neg (by omega)]

/-- Settles O13: whichever check the frame fails, it is a sequence error, and that acts by the lane's state and run. -/
theorem upFrameOfWrongIdentityIsASequenceError : Obligations.UpFrameOfWrongIdentityIsASequenceError := by
  intro x f s l counted index hready hlaw hl hstop hlength hcrc hindex lane kind hwrong hcounted
  obtain ⟨g, hg, hkind, hlane, -, -, -, hgindex, -⟩ := parseLaneFrame_of_good hstop hlength hcrc
  have herror (hon : l.state ≠ .off) : exec (.upDirectionFrame x f) s = .next (s.sequenceError x) := by
    rw [exec_upDirectionFrame hready, State.receiveFrame_of_wrongIdentity (hl ▸ hon) hg]
    rw [hgindex, ← hindex, hlane, hkind, ← hl]
    exact hwrong
  have hon (hwaited : l.state.waited = true) : l.state ≠ .off := fun h => by simp [h, LaneState.waited] at hwaited
  refine ⟨fun hstate => ?_, fun hwaited hrun => ?_, fun hwaited hrun => ?_⟩
  · rw [herror (by rcases hstate with h | h <;> simp [h]), State.sequenceError_of_notWaited hlaw, hcounted, hl]
    rcases hstate with h | h <;> simp [← hl, h, LaneState.waited]
  · rw [herror (hon hwaited), State.sequenceError_of_run hlaw (hl ▸ hwaited) (hl ▸ hrun), hcounted, hl]
  · rw [herror (hon hwaited), State.sequenceError_of_resync hlaw hl hwaited hrun, hcounted]

/-! ### Accepted frames (R4, R5, R10, R11) -/

theorem Lane.feed_eq (l : Lane) (limit : Nat) (low : Bool) (f : SampleFrame) :
    l.feed limit low f =
      { l with
        voltage := if limit = 0 ∨ f.vFault = true then l.voltage else l.voltage.feed limit f.v
        current := if limit = 0 ∨ f.iFault = true ∨ low = true then l.current else l.current.feed limit f.i } := by
  unfold Lane.feed
  by_cases hlimit : limit = 0
  · simp [hlimit]
  · cases f.vFault <;> cases f.iFault <;> cases low <;> simp [hlimit]

theorem Lane.countAccepted_eq (l : Lane) (f : SampleFrame) :
    l.countAccepted f = { l with
      sequenceRun := 0
      counters := { l.counters with
        accepted := min (l.counters.accepted + 1) 4294967295
        overrange := if f.vOvr || f.iOvr then min (l.counters.overrange + 1) 4294967295 else l.counters.overrange
        restarts := if f.restart then min (l.counters.restarts + 1) 4294967295 else l.counters.restarts } } := by
  simp only [Lane.countAccepted, satInc_eq_min]
  rfl

/-- An accepted frame that leaves the lane in its state restarts at most the histories, in SEEK (R10, R11). -/
theorem Lane.acceptState_of_waited {l : Lane} {restart : Bool} (hwaited : l.state.waited = true)
    (hseek : restart = true → l.state = .seek) :
    l.acceptState restart = { l with
      presentRun := if restart then 0 else l.presentRun
      voltage := if restart then { l.voltage with previous := none, equalRun := 0 } else l.voltage
      current := if restart then { l.current with previous := none, equalRun := 0 } else l.current } := by
  cases hrestart : restart with
  | true =>
    unfold Lane.acceptState
    rw [hseek hrestart]
    rfl
  | false =>
    cases hstate : l.state with
    | seek | up | suspect =>
      simp only [Lane.acceptState, hstate]
      rw [← hstate]
      rfl
    | off | lost | test => exact absurd hwaited (by rw [hstate]; decide)

/-- An accepted frame in LOST, and one with RESTART in UP or SUSPECT, makes the lane enter SEEK with an empty queue. -/
theorem Lane.acceptState_of_entering {l : Lane} {restart : Bool}
    (h : l.state = .lost ∧ l.queue = [] ∨ (l.state = .up ∨ l.state = .suspect) ∧ restart = true) :
    l.acceptState restart = { l with
      state := .seek, queue := [], presentRun := 0, absentRun := 0, sequenceRun := 0, periodPosition := 0
      periodErrors := 0
      voltage := if restart then { l.voltage with previous := none, equalRun := 0 } else l.voltage
      current := if restart then { l.current with previous := none, equalRun := 0 } else l.current } := by
  unfold Lane.acceptState
  rcases h with ⟨hlost, hempty⟩ | ⟨hup | hsuspect, rfl⟩
  · rw [hlost, ← hempty]
    cases restart <;> rfl
  · rw [hup]
    rfl
  · rw [hsuspect]
    rfl

/-- A frame of an open index that the lane does not hold is accepted (R4). -/
theorem State.receiveFrame_of_accepted {s : State} {x : Phase} {f : LineFrame} {g : UpLaneFrame} (hrange : s.RangeLaw)
    (hon : (s.lanes.get x).state ≠ .off) (htest : (s.lanes.get x).state ≠ .test) (hg : parseLaneFrame f = some g)
    (hkind : g.kind = 4) (hlane : g.lane = phaseNumber x + 1) (hopen : g.index ∈ s.aligner.openRange)
    (hnew : ∀ d ∈ (s.lanes.get x).queue, d.index ≠ g.index) :
    s.receiveFrame x f =
      ((s.changeLane x ((s.lanes.get x).accept s.aligner.oldest s.stuckLimit (s.engine.lowVoltage.get x)
        (clampFrame g))).raiseIf ((clampFrame g).vOvr || (clampFrame g).iOvr) (.overrange x)).raiseIf g.restart
          (.feRestart x) := by
  have hidentity : ¬ (g.lane ≠ laneId x ∨ (g.kind ≠ 4 ∧ g.kind ≠ 5)) := by simp [laneId, hlane, hkind]
  have hsample : ¬ g.kind = 5 := by simp [hkind]
  have hin : s.aligner.inRange (clampFrame g).index = true := (Aligner.inRange_iff hrange.1 _).mpr hopen
  have hany : ¬ (s.lanes.get x).queue.any (fun d => d.index == (clampFrame g).index) = true := by
    rw [List.any_eq_true]
    rintro ⟨d, hd, heq⟩
    exact hnew d hd (eq_of_beq heq)
  rw [State.receiveFrame_of_parse hon hg]
  simp only [State.judgeFrame, if_neg hidentity, if_neg hsample, if_neg htest, State.judgeSample, if_pos hin, if_neg hany]
  rfl

/-- Settles O15: the lane record field by field, then the reports of the two channels. -/
theorem acceptedSampleJoinsTheLaneQueue : Obligations.AcceptedSampleJoinsTheLaneQueue := by
  rintro x f g s l e voltage current fedVoltage fedCurrent hready hlaw hrange rfl rfl hwaited hg hkind hlane hseek hopen
    hnew hvoltage hcurrent hfedV hfedI memory
  have hon : (s.lanes.get x).state ≠ .off := fun h => by simp [h, LaneState.waited] at hwaited
  have htest : (s.lanes.get x).state ≠ .test := fun h => by simp [h, LaneState.waited] at hwaited
  obtain ⟨horder, -, -⟩ := hrange.2 x
  refine ⟨insertFrame s.aligner.oldest (clampFrame g) (s.lanes.get x).queue, fun d => mem_insertFrame _ _ _ _,
    pairwise_insertFrame _ _ _ horder hnew, ?_⟩
  have hlane' : (s.lanes.get x).accept s.aligner.oldest s.stuckLimit (s.engine.lowVoltage.get x) (clampFrame g) =
      { s.lanes.get x with
        queue := insertFrame s.aligner.oldest (clampFrame g) (s.lanes.get x).queue, sequenceRun := 0
        presentRun := if g.restart then 0 else (s.lanes.get x).presentRun
        voltage := fedVoltage, current := fedCurrent
        counters := { (s.lanes.get x).counters with
          accepted := min ((s.lanes.get x).counters.accepted + 1) 4294967295
          overrange := if (clampFrame g).vOvr || (clampFrame g).iOvr then
            min ((s.lanes.get x).counters.overrange + 1) 4294967295 else (s.lanes.get x).counters.overrange
          restarts := if g.restart then min ((s.lanes.get x).counters.restarts + 1) 4294967295
            else (s.lanes.get x).counters.restarts } } := by
    have hmarked : (clampFrame g).restart = g.restart := rfl
    have haccepted : ((s.lanes.get x).countAccepted (clampFrame g)).acceptState g.restart = _ :=
      Lane.acceptState_of_waited hwaited hseek
    unfold Lane.accept
    rw [hmarked, haccepted]
    simp only [Lane.countAccepted_eq, Lane.feed_eq, hmarked]
    simp only [← hvoltage, ← hcurrent, ← hfedV, ← hfedI]
  rw [exec_upDirectionFrame hready, State.receiveFrame_of_accepted hrange hon htest hg hkind hlane hopen hnew, hlane',
    State.changeLane_of_state hlaw x]
  · simp only [State.withChangedLane, Bool.and_not_self, Bool.false_or, Bool.and_eq_true, Bool.not_eq_true']
    rfl
  · rfl
  · rfl

/-- Settles O16: the lane enters SEEK with the frame alone in its queue; the reports follow. -/
theorem acceptedFrameBringsSeek : Obligations.AcceptedFrameBringsSeek := by
  rintro x f g s l seeking e voltage current fedVoltage fedCurrent hready hlaw hrange rfl rfl hg hkind hlane hopen hvoltage
    hcurrent hfedV hfedI hseeking entered
  have hmarked : (clampFrame g).restart = g.restart := rfl
  have haccept (hstate : (s.lanes.get x).state = .lost ∧ (s.lanes.get x).queue = []
      ∨ ((s.lanes.get x).state = .up ∨ (s.lanes.get x).state = .suspect) ∧ g.restart = true) :
      (s.lanes.get x).accept s.aligner.oldest s.stuckLimit (s.engine.lowVoltage.get x) (clampFrame g) = seeking := by
    have hentered : ((s.lanes.get x).countAccepted (clampFrame g)).acceptState g.restart = _ :=
      Lane.acceptState_of_entering hstate
    rw [hseeking]
    unfold Lane.accept
    rw [hmarked, hentered]
    simp only [Lane.countAccepted_eq, Lane.feed_eq, hmarked]
    simp only [← hvoltage, ← hcurrent, ← hfedV, ← hfedI, insertFrame]
  have hstateNew : seeking.state = .seek := by rw [hseeking]
  have hvNew : seeking.voltage = fedVoltage := by rw [hseeking]
  have hiNew : seeking.current = fedCurrent := by rw [hseeking]
  refine ⟨fun hlost => ?_, fun hup hrestart hnew => ?_⟩
  · have hempty : (s.lanes.get x).queue = [] := (hrange.2 x).2.2 (by rw [hlost]; rfl)
    have hmemory : s.withChangedLane x seeking =
        (if (s.lanes.get x).voltage.stuck = false ∧ fedVoltage.stuck = true then s.withEmptyMemory x else s).withLane x
          seeking := by
      simp [State.withChangedLane, hlost, hvNew, LaneState.used]
    simp only [entered]
    rw [exec_upDirectionFrame hready, State.receiveFrame_of_accepted hrange (by simp [hlost]) (by simp [hlost]) hg hkind
      hlane hopen (by simp [hempty]), haccept (Or.inl ⟨hlost, hempty⟩),
      State.changeLane_of_suspect hlaw x _ (by rw [hstateNew, hlost]; rfl), hmemory, hstateNew, hvNew, hiNew]
    rfl
  · have hmemory : s.withChangedLane x seeking = (s.withEmptyMemory x).withLane x seeking := by
      rcases hup with hup | hup <;> simp [State.withChangedLane, hup, hstateNew, LaneState.used]
    have hlost : seeking.state.isLost = (s.lanes.get x).state.isLost := by
      rcases hup with hup | hup <;> rw [hstateNew, hup] <;> rfl
    simp only [entered]
    rw [exec_upDirectionFrame hready, State.receiveFrame_of_accepted hrange (by rcases hup with h | h <;> simp [h])
      (by rcases hup with h | h <;> simp [h]) hg hkind hlane hopen hnew, haccept (Or.inr ⟨hup, hrestart⟩),
      State.changeLane_of_lost hlaw x _ hlost, hmemory, hstateNew, hvNew, hiNew]
    rfl

/-! ### The end of a quality period (R13) -/

theorem exec_qualityPeriodEnd {s : State} (h : s.resetApplied = false) (x : Phase) :
    exec (.qualityPeriodEnd x) s = .next (s.takePeriodEnd x) :=
  congrArg Host.Outcome.next (s.unlessReset_of h _)

/-- Settles O19: the judged state decides whether SUSPECT is reported. -/
theorem qualityPeriodEndJudgesTheLane : Obligations.QualityPeriodEndJudgesTheLane := by
  rintro x s l ended m hreset hlaw rfl hm rfl
  have hdue (hposition : 4000 ≤ (s.lanes.get x).periodPosition) (hwaited : (s.lanes.get x).state.waited = true) :
      exec (.qualityPeriodEnd x) s = .next (s.endPeriod x) := by
    have hperiod : (s.lanes.get x).periodDue = true := by simp [Lane.periodDue, hwaited, Config.qualityPeriod, hposition]
    rw [exec_qualityPeriodEnd hreset, State.takePeriodEnd, if_pos hperiod]
  refine ⟨fun hnot => ?_, fun hposition hup herrors => ?_, fun hposition hup herrors => ?_,
    fun hposition hsuspect herrors => ?_, fun hposition hsame => ?_⟩
  · have hperiod : ¬ (s.lanes.get x).periodDue = true := by
      rcases hnot with h | h
      · simp [Lane.periodDue, h]
      · simp [Lane.periodDue, Config.qualityPeriod, Nat.not_le.mpr h]
    rw [exec_qualityPeriodEnd hreset, State.takePeriodEnd, if_neg hperiod]
  · have hjudge : (s.lanes.get x).judgePeriod s.tables.meterActive = (s.lanes.get x).state := by
      simp [Lane.judgePeriod, hup, hm, herrors]
    rw [hdue hposition (by rw [hup]; rfl)]
    simp only [State.endPeriod, hjudge]
    rw [State.changeLane_of_same hlaw x]
    all_goals rfl
  · have hjudge : (s.lanes.get x).judgePeriod s.tables.meterActive = .suspect := by
      simp [Lane.judgePeriod, hup, hm, herrors]
    rw [hdue hposition (by rw [hup]; rfl)]
    simp only [State.endPeriod, hjudge]
    rw [State.changeLane_of_lost_of_channels hlaw x, State.withChangedLane_of_kept]
    · rfl
    · exact Or.inl (by rw [hup]; rfl)
    · rfl
    · rw [hup]
      rfl
    · rfl
    · rfl
  · have hjudge : (s.lanes.get x).judgePeriod s.tables.meterActive = .up := by
      simp [Lane.judgePeriod, hsuspect, hm, herrors]
    rw [hdue hposition (by rw [hsuspect]; rfl)]
    simp only [State.endPeriod, hjudge]
    rw [State.changeLane_of_lost_of_channels hlaw x, State.withChangedLane_of_kept]
    · rfl
    · exact Or.inl (by rw [hsuspect]; rfl)
    · rfl
    · rw [hsuspect]
      rfl
    · rfl
    · rfl
  · have hjudge : (s.lanes.get x).judgePeriod s.tables.meterActive = (s.lanes.get x).state := by
      rcases hsame with hseek | ⟨hsuspect, herrors⟩
      · simp [Lane.judgePeriod, hseek]
      · simp [Lane.judgePeriod, hsuspect, hm, herrors]
    rw [hdue hposition (by rcases hsame with h | ⟨h, -⟩ <;> rw [h] <;> rfl)]
    simp only [State.endPeriod, hjudge]
    rw [State.changeLane_of_same hlaw x]
    all_goals rfl

end Sys2Proof.Machine

/-! # The stuck detector (R14, R15) -/

namespace Sys2Proof.Machine

/-! ### One fed code -/

/-- The run of equal codes after a fed one. -/
def Detector.runAfter (d : Detector) (code : Int) : Nat := if d.previous = some code then min (d.equalRun + 1) 4000 else 0

/-- The change-seen mark after a fed code: the first code after none is no change (log 13). -/
def Detector.changeAfter (d : Detector) (code : Int) : Bool :=
  d.changeSeen || decide (∃ p, d.previous = some p ∧ p ≠ code)

theorem Detector.feed_of_clear {d : Detector} (hstuck : d.stuck = false) (limit : Nat) (code : Int) :
    d.feed limit code =
      if limit ≤ d.runAfter code then
        { previous := some code, equalRun := d.runAfter code, stuck := true, blockPosition := 0, changeSeen := false
          goodBlocks := 0 }
      else { d with previous := some code, equalRun := d.runAfter code } := by
  simp only [Detector.feed, Detector.runAfter, satInc_eq_min, hstuck]
  rfl

theorem Detector.feed_of_stuck {d : Detector} (hstuck : d.stuck = true) (limit : Nat) (code : Int) :
    d.feed limit code =
      ({ d with previous := some code, equalRun := d.runAfter code, changeSeen := d.changeAfter code } : Detector).clearStep
        false := by
  cases hprevious : d.previous with
  | none => simp [Detector.feed, Detector.clearStep, Detector.runAfter, Detector.changeAfter, hprevious, hstuck]
  | some p =>
    simp [Detector.feed, Detector.clearStep, Detector.runAfter, Detector.changeAfter, hprevious, hstuck, satInc_eq_min]

theorem Detector.clearStep_of_lt {d : Detector} (h : d.blockPosition < 63) :
    d.clearStep false = { d with blockPosition := d.blockPosition + 1 } := by
  have hne : d.blockPosition + 1 ≠ 64 := by omega
  simp [Detector.clearStep, hne]

/-- At the end of a block a change in it makes one more good block, and the fourth in a row clears. -/
theorem Detector.clearStep_of_end {d : Detector} (h : d.blockPosition = 63)
    (hstuck : d.stuck = true) :
    d.clearStep false =
      { previous := d.previous, blockPosition := 0, changeSeen := false
        stuck := !(d.changeSeen && d.goodBlocks == 3)
        equalRun := if d.changeSeen && d.goodBlocks == 3 then 0 else d.equalRun
        goodBlocks := if d.changeSeen then (if d.goodBlocks = 3 then 0 else d.goodBlocks + 1) else 0 } := by
  unfold Detector.clearStep
  cases d.changeSeen with
  | false => simp [h, hstuck]
  | true =>
    by_cases hthree : d.goodBlocks = 3
    · simp [h, hthree]
    · simp [h, hstuck, hthree]

/-! ### The same code again and again -/

/-- A clear channel fed the same code stays clear while the run is below the limit. -/
theorem Detector.feed_iterate {d : Detector} {limit : Nat} {code : Int} (hstuck : d.stuck = false)
    (hfirst : d.previous ≠ some code) (hlimit : limit ≤ 4000) (hpositive : 0 < limit) (n : Nat) (hn : n < limit) :
    (((fun e => Detector.feed e limit code)^[n + 1]) d).stuck = false
      ∧ (((fun e => Detector.feed e limit code)^[n + 1]) d).equalRun = n
      ∧ (((fun e => Detector.feed e limit code)^[n + 1]) d).previous = some code := by
  induction n with
  | zero =>
    have hrun : d.runAfter code = 0 := if_neg hfirst
    simp [Detector.feed_of_clear hstuck, hrun, hpositive.ne', hstuck]
  | succ n ih =>
    obtain ⟨hclear, hequal, hprevious⟩ := ih (by omega)
    rw [Function.iterate_succ_apply']
    generalize ((fun e => Detector.feed e limit code)^[n + 1]) d = e at hclear hequal hprevious ⊢
    have hrun : e.runAfter code = n + 1 := by
      rw [Detector.runAfter, if_pos hprevious, hequal]
      omega
    have hbelow : ¬ limit ≤ n + 1 := by omega
    simp [Detector.feed_of_clear hclear, hrun, hbelow, hclear]

/-- Settles O18: a clear channel by its run, a stuck one by its block. -/
theorem stuckDetectorSetsAndClears : Obligations.StuckDetectorSetsAndClears := by
  intro d limit code run changed hlow hhigh hrun hchanged
  have hrun' : d.runAfter code = run := hrun.symm
  have hchanged' : d.changeAfter code = changed := hchanged.symm
  refine ⟨fun hstuck hfirst => ⟨fun n hone hle => ?_, ?_⟩, fun hstuck hbelow => ?_, fun hstuck hreached => ?_,
    fun hstuck hinside => ?_, fun hstuck hend _ => ?_⟩
  · obtain ⟨m, rfl⟩ : ∃ m, n = m + 1 := ⟨n - 1, by omega⟩
    obtain ⟨hclear, hequal, -⟩ := Detector.feed_iterate hstuck hfirst hhigh (by omega) m (by omega)
    exact ⟨hclear, hequal⟩
  · obtain ⟨m, rfl⟩ : ∃ m, limit = m + 1 := ⟨limit - 1, by omega⟩
    obtain ⟨hclear, hequal, hprevious⟩ := Detector.feed_iterate hstuck hfirst hhigh (by omega) m (by omega)
    rw [Function.iterate_succ_apply']
    generalize ((fun e => Detector.feed e (m + 1) code)^[m + 1]) d = e at hclear hequal hprevious ⊢
    have hrunEnd : e.runAfter code = m + 1 := by
      rw [Detector.runAfter, if_pos hprevious, hequal]
      omega
    simp [Detector.feed_of_clear hclear, hrunEnd]
  · rw [Detector.feed_of_clear hstuck, hrun', if_neg (by omega)]
  · rw [Detector.feed_of_clear hstuck, hrun', if_pos hreached]
  · rw [Detector.feed_of_stuck hstuck, hrun', hchanged']
    exact Detector.clearStep_of_lt hinside
  · rw [Detector.feed_of_stuck hstuck, hrun', hchanged']
    exact Detector.clearStep_of_end hend hstuck

end Sys2Proof.Machine

/-! # The lane test checker: its pattern and its steps (R178 to R181) -/

namespace Sys2Proof.Machine

/-! ### The pattern -/

theorem advanceBit_getLsbD_zero (g : BitVec 15) : (advanceBit g).getLsbD 0 = nextPatternBit g := by
  simp [advanceBit]

theorem advanceBit_getLsbD_succ (g : BitVec 15) {k : Nat} (hk : k + 1 < 15) :
    (advanceBit g).getLsbD (k + 1) = g.getLsbD k := by
  simp [advanceBit, hk, -BitVec.getLsbD_eq_getElem]

/-- After `m` bits a bit of the generator stands `m` places higher. -/
theorem advanceBit_iterate_getLsbD (g : BitVec 15) (m : Nat) {k : Nat} (hk : k + m < 15) :
    (advanceBit^[m] g).getLsbD (k + m) = g.getLsbD k := by
  induction m with
  | zero => rfl
  | succ m ih => rw [Function.iterate_succ_apply', ← Nat.add_assoc, advanceBit_getLsbD_succ _ (k := k + m) (by omega), ih (by omega)]

/-- The pattern from the oldest of the generator's 15 bits on. -/
def patternBit (g : BitVec 15) (k : Nat) : Bool := (advanceBit^[k] g).getLsbD 14

theorem patternBit_of_lt (g : BitVec 15) {k : Nat} (hk : k < 15) : patternBit g k = g.getLsbD (14 - k) := by
  have hshift := advanceBit_iterate_getLsbD g k (k := 14 - k) (by omega)
  rwa [Nat.sub_add_cancel (by omega)] at hshift

/-- A bit of an advanced generator is the pattern's bit that it becomes the oldest as. -/
theorem advanceBit_iterate_eq_patternBit (g : BitVec 15) (m : Nat) {k : Nat} (hk : k < 15) :
    (advanceBit^[m] g).getLsbD k = patternBit g (m + (14 - k)) := by
  have hshift := advanceBit_iterate_getLsbD (advanceBit^[m] g) (14 - k) (k := k) (by omega)
  rw [← Function.iterate_add_apply, Nat.add_sub_cancel' (by omega), Nat.add_comm] at hshift
  exact hshift.symm

theorem nextPatternBit_iterate (g : BitVec 15) (m : Nat) :
    nextPatternBit (advanceBit^[m] g) = patternBit g (m + 15) := by
  rw [← advanceBit_getLsbD_zero, ← Function.iterate_succ_apply' advanceBit,
    advanceBit_iterate_eq_patternBit g (m + 1) (by decide)]

/-- Each bit of the pattern is the sum of two before it (R178). -/
theorem patternBit_recursion (g : BitVec 15) (k : Nat) :
    patternBit g (k + 15) = (patternBit g (k + 1) ^^ patternBit g k) := by
  rw [← nextPatternBit_iterate, nextPatternBit, advanceBit_iterate_eq_patternBit g k (by decide),
    advanceBit_iterate_eq_patternBit g k (by decide)]
  rfl

/-- The bits that are shifted into the accumulator, the first one highest, and the generator behind them. -/
theorem nextBits_spec (n : Nat) (g : BitVec 15) (acc : BitVec 48) (hn : n ≤ 48) :
    (nextBits n g acc).1 = advanceBit^[n] g
      ∧ (∀ j < n, (nextBits n g acc).2.getLsbD (n - 1 - j) = nextPatternBit (advanceBit^[j] g))
      ∧ ∀ i, i + n < 48 → (nextBits n g acc).2.getLsbD (i + n) = acc.getLsbD i := by
  induction n generalizing g acc with
  | zero => exact ⟨rfl, fun j hj => absurd hj (Nat.not_lt_zero j), fun i _ => rfl⟩
  | succ n ih =>
    obtain ⟨hgenerator, hnew, hold⟩ :=
      ih (advanceBit g) ((acc <<< 1) ||| (BitVec.ofBool (nextPatternBit g)).setWidth 48) (by omega)
    refine ⟨hgenerator, fun j hj => ?_, fun i hi => ?_⟩
    · cases j with
      | zero =>
        have hfirst := hold 0 (by omega)
        rw [Nat.zero_add] at hfirst
        simpa [nextBits] using hfirst
      | succ j =>
        have hlater := hnew j (by omega)
        rwa [← Function.iterate_succ_apply advanceBit, show n - 1 - j = n + 1 - 1 - (j + 1) by omega] at hlater
    · have hkept := hold (i + 1) (by omega)
      rw [show i + 1 + n = i + (n + 1) by omega] at hkept
      rw [nextBits, hkept]
      simp [show i + 1 < 48 by omega, -BitVec.getLsbD_eq_getElem]

/-- The expected bits of a context and its generator after them (R178). -/
theorem Checker.expects (c : Checker) : c.Expects c.expectedWord c.nextWord.1 := by
  refine ⟨fun hfixed => ?_, fun hprbs => ⟨patternBit c.generator, fun k hk => patternBit_of_lt _ hk,
    patternBit_recursion _, fun j hj => ?_, fun k hk => ?_⟩⟩
  · simp [expectedWord, nextWord, hfixed]
  · obtain ⟨-, hbits, -⟩ := nextBits_spec 48 c.generator 0 le_rfl
    have hbit : (nextBits 48 c.generator 0).2.getLsbD (47 - j) = patternBit c.generator (15 + j) := by
      rw [hbits j hj, nextPatternBit_iterate, Nat.add_comm]
    simp only [expectedWord, nextWord, hprbs]
    cases c.invert with
    | false => simpa using hbit
    | true =>
      rw [if_pos rfl, BitVec.getLsbD_not, hbit]
      simp [show 47 - j < 48 by omega]
  · obtain ⟨hgenerator, -, -⟩ := nextBits_spec 48 c.generator 0 le_rfl
    simp only [nextWord, hprbs, hgenerator]
    rw [advanceBit_iterate_eq_patternBit _ _ hk, show 48 + (14 - k) = 62 - k by omega]

/-! ### Wrong bits -/

theorem countBits_eq (n : Nat) (w : BitVec 48) : countBits n w = ((List.range n).filter (fun k => w.getLsbD k)).length := by
  induction n with
  | zero => rfl
  | succ n ih =>
    rw [countBits, ih, List.range_succ, List.filter_append, List.length_append, Nat.add_comm]
    cases hbit : w.getLsbD n <;> simp [hbit]

theorem countBits_xor (data word : BitVec 48) :
    countBits 48 (data ^^^ word) = ((List.range 48).filter (fun k => data.getLsbD k != word.getLsbD k)).length := by
  rw [countBits_eq]
  congr 1
  exact List.filter_congr fun k _ => BitVec.getLsbD_xor

/-! ### The steps of the checker -/

/-- A frame of SYNCED that has been counted and judged (R180). -/
theorem Checker.judged (c : Checker) (wrong : Nat) (bad : Bool) :
    c.Judged (((c.advance).addErrors wrong).judge bad) c.nextWord.1 wrong bad := by
  cases bad with
  | false => exact ⟨fun _ => rfl, fun h => Bool.noConfusion h⟩
  | true =>
    have hjudge : ((c.advance).addErrors wrong).judge true =
        if min (c.badRun + 1) 4 = 4 ∧ c.syncMask = false then
          { c with
            generator := c.nextWord.1, running := min (c.running + wrong) 1099511627775, badRun := min (c.badRun + 1) 4
            state := .seeding, expected := none, syncLosses := min (c.syncLosses + 1) 65535 }
        else
          { c with
            generator := c.nextWord.1, expected := c.expected.map (· + 1)
            running := min (c.running + wrong) 1099511627775, badRun := min (c.badRun + 1) 4 } := by
      simp only [judge, addErrors, advance, satInc_eq_min]
      rfl
    rw [hjudge]
    refine ⟨fun hkeeps => ?_, fun _ hrun hmask => ?_⟩
    · rw [if_neg]
      · rfl
      · rintro ⟨hfour, hmask⟩
        rcases hkeeps with h | h | h
        · exact Bool.noConfusion h
        · omega
        · exact absurd (hmask.symm.trans h) (by decide)
    · rw [if_pos ⟨by omega, hmask⟩]
      rfl

theorem Checker.missed (c : Checker) : c.Missed c.missing := by
  refine ⟨_, _, c.expects, fun hhunting => ?_, fun hsynced => ?_⟩
  · simp [missing, hhunting, advance]
  · have hmissing : c.missing = ((c.advance).addErrors 48).judge true := by simp [missing, hsynced]
    rw [hmissing]
    exact c.judged 48 true

theorem setWidth_eq_extract (w : BitVec 48) : w.setWidth 15 = w.extractLsb' 0 15 := by
  apply BitVec.eq_of_getLsbD_eq
  intro i hi
  simp [hi]

/-- A seeded context: its generator and the index after the frame's (R178). -/
theorem Checker.seed_eq (c : Checker) (index : StrobeIndex) (data : BitVec 48) :
    c.seed index data = { c with generator := c.seededGenerator data, expected := some (index + 1) } := by
  cases hpattern : c.pattern <;> simp [seed, seededGenerator, hpattern, setWidth_eq_extract]

theorem Checker.seededGenerator_advance (c : Checker) (data : BitVec 48) :
    c.advance.seededGenerator data = c.seededGenerator data := by
  cases hpattern : c.pattern <;> simp [seededGenerator, advance, nextWord, hpattern]

theorem Checker.checked (c : Checker) (index : StrobeIndex) (data : BitVec 48) : c.Checked index data (c.check index data) := by
  refine ⟨_, _, c.expects, ?_⟩
  rw [← countBits_xor]
  refine ⟨fun hhunting hgood hrun => ?_, fun hhunting hgood hrun => ?_, fun hhunting hbad => ?_, fun hsynced => ?_⟩
  · have hne : c.goodRun + 1 ≠ 4 := by omega
    simp [check, hhunting, hgood, advance, hne]
  · simp [check, hhunting, hgood, advance, hrun]
  · simp only [check, hhunting, if_neg hbad, seed_eq, seededGenerator_advance]
    simp only [advance, hhunting]
  · have hcheck : c.check index data = ((c.advance).addErrors (countBits 48 (data ^^^ c.expectedWord))).judge
        (decide (12 ≤ countBits 48 (data ^^^ c.expectedWord))) := by
      simp [check, hsynced]
    rw [hcheck]
    exact c.judged _ _

/-- Missing indices in HUNTING move the generator and the expected index alone. -/
theorem Checker.missing_iterate {c : Checker} (hhunting : c.state = .hunting) (hgood : c.goodRun = 0) (k : Nat) :
    ∃ generator, (Checker.missing^[k]) c =
      { c with generator := generator, expected := c.expected.map (· + BitVec.ofNat 12 k) } := by
  induction k with
  | zero => exact ⟨c.generator, by simp⟩
  | succ k ih =>
    obtain ⟨generator, hk⟩ := ih
    rw [Function.iterate_succ_apply', hk]
    refine ⟨({ c with generator := generator, expected := c.expected.map (· + BitVec.ofNat 12 k) } : Checker).nextWord.1, ?_⟩
    have hnext (n : StrobeIndex) : n + BitVec.ofNat 12 k + 1 = n + BitVec.ofNat 12 (k + 1) := by
      apply BitVec.eq_of_toNat_eq
      simp
      omega
    simp only [missing, hhunting, advance, Option.map_map, Function.comp_def, hnext, hgood]

theorem Checker.seeded (c : Checker) (latest : Option StrobeIndex) (index : StrobeIndex) (data : BitVec 48) :
    c.Seeded latest index data (c.seedFrame latest index data) := by
  have hframe : c.seedFrame latest index data =
      (Checker.missing^[({ c with
        state := .hunting, generator := c.seededGenerator data, expected := some (index + 1), goodRun := 0, badRun := 0
        timebaseBegun := true } : Checker).overdue latest]) { c with
        state := .hunting, generator := c.seededGenerator data, expected := some (index + 1), goodRun := 0, badRun := 0
        timebaseBegun := true } := by
    simp only [seedFrame, seed_eq]
  rw [hframe]
  refine ⟨fun hnear => ?_, fun n hn hfar hnext => ?_⟩
  · have hzero : ({ c with
        state := .hunting, generator := c.seededGenerator data, expected := some (index + 1), goodRun := 0, badRun := 0
        timebaseBegun := true } : Checker).overdue latest = 0 := by
      rcases hnear with rfl | ⟨n, rfl, hnear⟩
      · rfl
      · simp only [overdue]
        split
        · rfl
        · bv_omega
    rw [hzero]
    rfl
  · subst hn
    have hcount : ({ c with
        state := .hunting, generator := c.seededGenerator data, expected := some (index + 1), goodRun := 0, badRun := 0
        timebaseBegun := true } : Checker).overdue (some n) = (n - index).toNat - 2 := by
      simp only [overdue]
      rw [if_neg (by bv_omega)]
      bv_omega
    rw [hcount]
    obtain ⟨generator, hmissing⟩ := Checker.missing_iterate (c := { c with
        state := .hunting, generator := c.seededGenerator data, expected := some (index + 1), goodRun := 0, badRun := 0
        timebaseBegun := true }) rfl rfl ((n - index).toNat - 2)
    refine ⟨generator, hmissing.trans ?_⟩
    have hlast : index + 1 + BitVec.ofNat 12 ((n - index).toNat - 2) = n - 1 := by bv_omega
    simp only [Option.map_some, hlast]

theorem Checker.checkedOrSeeded (c : Checker) (latest : Option StrobeIndex) (index : StrobeIndex) (data : BitVec 48) :
    c.CheckedOrSeeded latest index data (c.checkOrSeed latest index data) := by
  refine ⟨fun hstate => ?_, fun hseeding => ?_⟩
  · have hcheck : c.checkOrSeed latest index data = c.check index data := by
      rcases hstate with h | h <;> simp [checkOrSeed, h]
    rw [hcheck]
    exact c.checked index data
  · have hseed : c.checkOrSeed latest index data = c.seedFrame latest index data := by simp [checkOrSeed, hseeding]
    rw [hseed]
    exact c.seeded latest index data

/-- A TEST frame at the checker, by its state and the distance of its index from the expected one (R179). -/
theorem Checker.takes (c : Checker) (latest : Option StrobeIndex) (index : StrobeIndex) (data : BitVec 48) :
    c.Takes latest index data (c.frame latest index data) := by
  refine ⟨fun hidle => by simp [frame, hidle], fun hseeding => ?_, fun e hstate he => ?_⟩
  · have hframe : c.frame latest index data = c.seedFrame latest index data := by simp [frame, hseeding]
    rw [hframe]
    exact c.seeded latest index data
  · have hframe : c.frame latest index data = match (index - e).toNat with
        | 0 => c.check index data
        | 1 => c.missing.checkOrSeed latest index data
        | 2 => c.missing.missing.checkOrSeed latest index data
        | _ => c := by
      rcases hstate with h | h <;> simp [frame, h, he, -BitVec.toNat_sub] <;> rfl
    rw [hframe]
    refine ⟨fun hzero => ?_, fun hone => ?_, fun htwo => ?_, fun hzero hone htwo => ?_⟩
    · rw [show (index - e).toNat = 0 by bv_omega]
      exact c.checked index data
    · rw [show (index - e).toNat = 1 by bv_omega]
      exact ⟨_, c.missed, c.missing.checkedOrSeeded latest index data⟩
    · rw [show (index - e).toNat = 2 by bv_omega]
      refine ⟨_, _, c.missed, fun _ => c.missing.missed, fun hseeding => ?_,
        c.missing.missing.checkedOrSeeded latest index data⟩
      generalize c.missing = d at hseeding
      simp [missing, hseeding]
    · split
      · bv_omega
      · bv_omega
      · bv_omega
      · rfl

end Sys2Proof.Machine

/-! # The strobe (R22) and what a changed checker raises (R181) -/

namespace Sys2Proof.Machine

theorem State.quiet_iff (s : State) : s.quiet = true ↔
    (∀ x, (s.lanes.get x).periodDue = false) ∧ s.capture.terminalDue = false ∧ (∀ x, s.timebaseDue x = false)
      ∧ s.demand.terminal = false ∧ s.calendar.rolloverDue = false := by
  simp only [State.quiet, Bool.and_eq_true, Bool.not_eq_true']
  refine ⟨fun ⟨⟨⟨⟨⟨⟨⟨⟨ha, hb⟩, hc⟩, hcapture⟩, hta⟩, htb⟩, htc⟩, hterminal⟩, hrollover⟩ =>
    ⟨fun x => ?_, hcapture, fun x => ?_, hterminal, hrollover⟩,
    fun ⟨hperiod, hcapture, htimebase, hterminal, hrollover⟩ =>
      ⟨⟨⟨⟨⟨⟨⟨⟨hperiod .a, hperiod .b⟩, hperiod .c⟩, hcapture⟩, htimebase .a⟩, htimebase .b⟩, htimebase .c⟩, hterminal⟩, hrollover⟩⟩
  · cases x <;> assumption
  · cases x <;> assumption

/-! ### What a changed checker raises -/

/-- A context whose running count has been compared with its limit (R181). -/
def Checker.compared (c : Checker) : Checker :=
  { c with failMark := c.failMark || (decide (c.timebase = .continuous) && decide (limitOf c.limitCode < c.running)) }

theorem Checker.compared_of_fails {c : Checker} (hfails : c.failsRunning = true) :
    c.failMark = false ∧ c.compared = { c with failMark := true } := by
  simp only [failsRunning, Bool.and_eq_true, Bool.not_eq_true'] at hfails
  obtain ⟨⟨hcontinuous, hmark⟩, hlimit⟩ := hfails
  simp [compared, hcontinuous, hlimit, hmark]

theorem Checker.compared_of_passes {c : Checker} (hfails : c.failsRunning = false) : c.compared = c := by
  have hmark : (c.failMark || (decide (c.timebase = .continuous) && decide (limitOf c.limitCode < c.running))) = c.failMark := by
    revert hfails
    unfold failsRunning
    generalize decide (c.timebase = .continuous) = continuous
    generalize decide (limitOf c.limitCode < c.running) = above
    cases c.failMark <;> cases continuous <;> simp
  rw [compared, hmark]

/-- The state with other contexts of the checkers. -/
def State.withCheckers (s : State) (k : PerPhase Checker) : State := { s with checkers := k }

theorem State.changeChecker_eq (s : State) (x : Phase) (c : Checker) :
    s.changeChecker x c = (s.withCheckers (s.checkers.set x c.compared)).raiseIf
      (c.compared.failMark && !c.failMark) (.linkTestFail x) := by
  cases hfails : c.failsRunning with
  | true =>
    obtain ⟨hmark, hcompared⟩ := Checker.compared_of_fails hfails
    simp [State.changeChecker, hfails, hcompared, hmark, State.raiseIf, State.withCheckers]
  | false => simp [State.changeChecker, hfails, Checker.compared_of_passes hfails, State.raiseIf, State.withCheckers]

theorem State.raiseIf_withCheckers (s : State) (b : Bool) (f : Flag) (k : PerPhase Checker) :
    (s.raiseIf b f).withCheckers k = (s.withCheckers k).raiseIf b f := by
  cases b <;> rfl

/-! ### The strobe at the checkers -/

theorem Checker.missing_failMark (c : Checker) : c.missing.failMark = c.failMark := by
  cases hstate : c.state with
  | synced =>
    simp only [missing, hstate, judge, addErrors, advance, if_true]
    split <;> rfl
  | idle | seeding | hunting => simp [missing, hstate, advance]

theorem Checker.strobe_failMark (c : Checker) (n : StrobeIndex) : (c.strobe n).failMark = c.failMark := by
  simp only [strobe, apply_ite Checker.failMark, missing_failMark, ite_self]

/-- The context of a lane after a strobe (R179, R181). -/
def State.strobedChecker (s : State) (x : Phase) (n : StrobeIndex) : Checker :=
  if (s.lanes.get x).state = .test then ((s.checkers.get x).strobe n).compared else s.checkers.get x

theorem State.strobeChecker_eq (s : State) (x : Phase) (n : StrobeIndex) :
    s.strobeChecker x n = (s.withCheckers (s.checkers.set x (s.strobedChecker x n))).raiseIf
      ((s.strobedChecker x n).failMark && !(s.checkers.get x).failMark) (.linkTestFail x) := by
  by_cases htest : (s.lanes.get x).state = .test
  · rw [State.strobeChecker, if_pos htest, State.strobedChecker, if_pos htest, State.changeChecker_eq, Checker.strobe_failMark]
  · rw [State.strobeChecker, if_neg htest, State.strobedChecker, if_neg htest, Bool.and_not_self]
    cases x <;> rfl

/-- The three contexts change, and each mark that has been set is raised. -/
theorem State.strobeCheckers_eq (s : State) (n : StrobeIndex) :
    ((s.strobeChecker .a n).strobeChecker .b n).strobeChecker .c n =
      (((s.withCheckers ⟨s.strobedChecker .a n, s.strobedChecker .b n, s.strobedChecker .c n⟩).raiseIf
        ((s.strobedChecker .a n).failMark && !(s.checkers.get .a).failMark) (.linkTestFail .a)).raiseIf
        ((s.strobedChecker .b n).failMark && !(s.checkers.get .b).failMark) (.linkTestFail .b)).raiseIf
        ((s.strobedChecker .c n).failMark && !(s.checkers.get .c).failMark) (.linkTestFail .c) := by
  have hkept (t : State) (x : Phase) (hlanes : t.lanes = s.lanes) (hcheckers : t.checkers.get x = s.checkers.get x) :
      t.strobedChecker x n = s.strobedChecker x n := by
    simp only [State.strobedChecker, hlanes, hcheckers]
  have hb : (s.strobeChecker .a n).strobedChecker .b n = s.strobedChecker .b n := by
    rw [s.strobeChecker_eq .a n]
    exact hkept _ .b (by simp [State.withCheckers]) (by simp [State.withCheckers, PerPhase.set, PerPhase.get])
  have hc : ((s.strobeChecker .a n).strobeChecker .b n).strobedChecker .c n = s.strobedChecker .c n := by
    rw [State.strobeChecker_eq _ .b n, s.strobeChecker_eq .a n]
    exact hkept _ .c (by simp [State.withCheckers]) (by simp [State.withCheckers, PerPhase.set, PerPhase.get])
  rw [State.strobeChecker_eq _ .c n, hc, State.strobeChecker_eq _ .b n, hb, s.strobeChecker_eq .a n]
  simp only [State.raiseIf_withCheckers, State.raiseIf_frame]
  rfl

/-- The context of a lane in TEST after a strobe: the index two before it is missing if that is still expected, and the
timebase counts the strobe. -/
theorem Checker.strobe_spec (c : Checker) (n : StrobeIndex) :
    ∃ d, ((c.state = .hunting ∨ c.state = .synced) → c.expected = some (n - 2) → c.Missed d)
      ∧ ((c.state = .idle ∨ c.state = .seeding ∨ c.expected ≠ some (n - 2)) → d = c)
      ∧ (c.strobe n).compared = { d with
          timebaseCount := if d.timebaseBegun then min (d.timebaseCount + 1) 16777216 else d.timebaseCount
          failMark := d.failMark || (decide (d.timebase = .continuous)
            && decide ((d.limitCode.toNat / 8) * 4 ^ (d.limitCode.toNat % 8) < d.running)) } := by
  refine ⟨if c.expected = some (n - 2) then c.missing else c, fun _ hexpected => ?_, fun hkept => ?_, ?_⟩
  · rw [if_pos hexpected]
    exact c.missed
  · split
    case isFalse => rfl
    case isTrue hexpected =>
      rcases hkept with h | h | h
      · simp [missing, h]
      · simp [missing, h]
      · exact absurd hexpected h
  · simp only [strobe]
    generalize (if c.expected = some (n - 2) then c.missing else c) = d
    cases hbegun : d.timebaseBegun <;> simp [compared, limitOf, satInc_eq_min, hbegun]

/-! ### The strobe -/

theorem State.release_of_not_due {s : State} (hdue : s.releaseDue = false) (hquiet : s.quiet = true) : s.release = s := by
  obtain ⟨hperiod, -⟩ := s.quiet_iff.mp hquiet
  have hnone (x : Phase) : s.takePeriodEnd x = s := if_neg (by simp only [hperiod x, Bool.false_eq_true, not_false_iff])
  have hheld : s.releaseIfDue = s := if_neg (by simp only [hdue, Bool.false_eq_true, not_false_iff])
  rw [State.release, hheld, hnone, hnone, hnone]

theorem exec_strobe {s : State} (hready : s.Ready) (hexpiry : s.expiryDue = false) (hdue : s.releaseDue = false) :
    exec .strobe s = .next s.issueStrobe := by
  have hstrobe : s.strobe = s.issueStrobe := by
    simp [State.strobe, State.takeExpiry, hexpiry, State.release_of_not_due hdue hready.2]
  exact congrArg Host.Outcome.next ((s.after_of_ready hready _).trans hstrobe)

/-- The state that a strobe has counted (R2, R22, R98, R148), its checkers aside. -/
def State.strobeCounted (s : State) : State :=
  { s with
    lanes := ⟨s.lanes.a.strobe .a s.aligner.nextIndex, s.lanes.b.strobe .b s.aligner.nextIndex,
      s.lanes.c.strobe .c s.aligner.nextIndex⟩
    aligner := { s.aligner with
      nextIndex := s.aligner.nextIndex + 1, openRange := s.aligner.openRange ++ [s.aligner.nextIndex]
      latest := some s.aligner.nextIndex }
    calendar := { s.calendar with strobeCount := s.calendar.strobeCount + 1 }
    monitor := s.monitor.countStrobe s.watchdogLimit }

/-- The contexts of the three lanes after the strobe. -/
def State.strobedCheckers (s : State) : PerPhase Checker :=
  ⟨s.strobedChecker .a s.aligner.nextIndex, s.strobedChecker .b s.aligner.nextIndex, s.strobedChecker .c s.aligner.nextIndex⟩

theorem State.strobedCheckers_get (s : State) (x : Phase) :
    s.strobedCheckers.get x = s.strobedChecker x s.aligner.nextIndex := by
  cases x <;> rfl

/-- The mark of a lane is one that the strobe has set. -/
def State.strobeFails (s : State) (x : Phase) : Bool := (s.strobedCheckers.get x).failMark && !(s.checkers.get x).failMark

theorem State.issueStrobe_eq (s : State) :
    s.issueStrobe = (((s.strobeCounted.withCheckers s.strobedCheckers).raiseIf (s.strobeFails .a) (.linkTestFail .a)).raiseIf
      (s.strobeFails .b) (.linkTestFail .b)).raiseIf (s.strobeFails .c) (.linkTestFail .c) := by
  have hcontext (x : Phase) :
      s.strobeCounted.strobedChecker x s.aligner.nextIndex = s.strobedChecker x s.aligner.nextIndex := by
    cases x <;> rfl
  have hissue : s.issueStrobe = ((s.strobeCounted.strobeChecker .a s.aligner.nextIndex).strobeChecker .b
      s.aligner.nextIndex).strobeChecker .c s.aligner.nextIndex := rfl
  rw [hissue, State.strobeCheckers_eq, hcontext, hcontext, hcontext]
  rfl

theorem State.raiseIf_watchdog (s : State) (b : Bool) (f : Flag) :
    (s.raiseIf b f).monitor.watchdogRunning = s.monitor.watchdogRunning
      ∧ (s.raiseIf b f).monitor.watchdogCount = s.monitor.watchdogCount
      ∧ (s.raiseIf b f).monitor.expired = s.monitor.expired := by
  cases b <;> exact ⟨rfl, rfl, rfl⟩

/-- Settles O20: the state that a strobe has counted, with the marks of the checkers raised. -/
theorem strobeIssuesTheNextIndex : Obligations.StrobeIssuesTheNextIndex := by
  rintro s n hready hexpiry hdue rfl
  have hcheckers : s.issueStrobe.checkers = s.strobedCheckers := by
    rw [State.issueStrobe_eq]
    simp only [State.raiseIf_frame, State.withCheckers]
  have hmonitor : s.issueStrobe.monitor.watchdogCount = (s.monitor.countStrobe s.watchdogLimit).watchdogCount
      ∧ s.issueStrobe.monitor.expired = (s.monitor.countStrobe s.watchdogLimit).expired := by
    rw [State.issueStrobe_eq]
    simp only [State.raiseIf_watchdog]
    exact ⟨rfl, rfl⟩
  have hframe : s.issueStrobe.lanes = s.strobeCounted.lanes ∧ s.issueStrobe.aligner = s.strobeCounted.aligner
      ∧ s.issueStrobe.calendar = s.strobeCounted.calendar := by
    rw [State.issueStrobe_eq]
    simp only [State.raiseIf_frame]
    exact ⟨rfl, rfl, rfl⟩
  obtain ⟨hlanes, haligner, hcalendar⟩ := hframe
  refine ⟨_, exec_strobe hready hexpiry hdue, fun x => ?_, haligner, hcalendar, ?_, ?_, fun x => ⟨fun hstate => ?_, fun hstate => ?_⟩, ?_⟩
  · rw [hlanes]
    cases x <;> rfl
  · rw [hmonitor.1, Monitor.countStrobe]
    split <;> rfl
  · rw [hmonitor.2, Monitor.countStrobe]
    split <;> rfl
  · rw [hcheckers, State.strobedCheckers_get, State.strobedChecker, if_neg hstate]
  · rw [hcheckers, State.strobedCheckers_get, State.strobedChecker, if_pos hstate]
    exact (s.checkers.get x).strobe_spec s.aligner.nextIndex
  · simp only [hcheckers, hlanes, haligner, hcalendar, hmonitor]
    have hcounted : (s.monitor.countStrobe s.watchdogLimit) = { s.monitor with
        watchdogCount := (s.monitor.countStrobe s.watchdogLimit).watchdogCount
        expired := (s.monitor.countStrobe s.watchdogLimit).expired } := by
      unfold Monitor.countStrobe
      split <;> rfl
    rw [← hcounted]
    exact s.issueStrobe_eq

end Sys2Proof.Machine

/-! # The lane test (R12, R177 to R182) -/

namespace Sys2Proof.Machine

/-! ### Raises and changes of a lane do not see the command queue -/

section WithCommands

variable (s : State) (rest : List (List Byte))

theorem State.raise_withCommands (f : Flag) : (s.withCommands rest).raise f = (s.raise f).withCommands rest := by
  have hnotify : (s.withCommands rest).notify f = s.notify f := rfl
  have hmonitor : (s.withCommands rest).monitor = s.monitor := rfl
  simp only [State.raise, hnotify, hmonitor]
  cases f.urgent && !FlagSet.names s.monitor.mask f <;> rfl

theorem State.raiseIf_withCommands (b : Bool) (f : Flag) :
    (s.withCommands rest).raiseIf b f = (s.raiseIf b f).withCommands rest := by
  cases b with
  | false => rfl
  | true => exact s.raise_withCommands rest f

theorem State.report_withCommands (f : Flag) (v : Bool) :
    (s.withCommands rest).report f v = (s.report f v).withCommands rest :=
  State.raiseIf_withCommands { s with monitor := s.monitor.setCondition f v } rest _ f

theorem State.reportLane_withCommands (x : Phase) : (s.withCommands rest).reportLane x = (s.reportLane x).withCommands rest := by
  have hlanes : (s.withCommands rest).lanes = s.lanes := rfl
  simp only [State.reportLane, hlanes, State.report_withCommands]

theorem State.changeLane_withCommands (x : Phase) (new : Lane) :
    (s.withCommands rest).changeLane x new = (s.changeLane x new).withCommands rest := by
  simp only [State.changeLane]
  rw [← State.reportLane_withCommands]
  rfl

end WithCommands

/-! ### The parameters of LINK TEST START (R177) -/

@[simp] theorem patternOf_patternCode (p : Pattern) : patternOf (patternCode p) = some p := by cases p <;> rfl

@[simp] theorem timebaseOf_timebaseCode (t : Timebase) : timebaseOf (timebaseCode t) = some t := by cases t <;> rfl

@[simp] theorem markOf_markByte (b : Bool) : markOf (markByte b) = some b := by cases b <;> rfl

theorem byte_ne_of_lt {b n : Byte} {k : Nat} (hk : k < b.toNat) (hn : n.toNat ≤ k) : b ≠ n := by
  rintro rfl
  omega

theorem patternOf_eq_none {b : Byte} (h : 1 < b.toNat) : patternOf b = none := by
  simp only [patternOf, byte_ne_of_lt (n := 0) h (by decide), byte_ne_of_lt (n := 1) h (by decide), if_false]

theorem markOf_eq_none {b : Byte} (h : 1 < b.toNat) : markOf b = none := by
  simp only [markOf, byte_ne_of_lt (n := 0) h (by decide), byte_ne_of_lt (n := 1) h (by decide), if_false]

theorem timebaseOf_eq_none {b : Byte} (h : 3 < b.toNat) : timebaseOf b = none := by
  simp only [timebaseOf, byte_ne_of_lt (n := 0) h (by decide), byte_ne_of_lt (n := 1) h (by decide),
    byte_ne_of_lt (n := 2) h (by decide), byte_ne_of_lt (n := 3) h (by decide), if_false]

/-- The parameters are named where each is in its numbering. -/
theorem testSettings_eq_none {p : List Byte} (hrange : phaseOf (p.getD 0 0).toNat = none ∨ patternOf (p.getD 1 0) = none
    ∨ markOf (p.getD 2 0) = none ∨ markOf (p.getD 3 0) = none ∨ timebaseOf (p.getD 4 0) = none) : testSettings p = none := by
  unfold testSettings
  split
  next hx hpattern hinvert hmask htimebase =>
    rcases hrange with h | h | h | h | h
    · exact absurd (hx.symm.trans h) (Option.some_ne_none _)
    · exact absurd (hpattern.symm.trans h) (Option.some_ne_none _)
    · exact absurd (hinvert.symm.trans h) (Option.some_ne_none _)
    · exact absurd (hmask.symm.trans h) (Option.some_ne_none _)
    · exact absurd (htimebase.symm.trans h) (Option.some_ne_none _)
  next => rfl

theorem beNat_ofNat_six (w0 w1 w2 w3 w4 w5 : Byte) :
    BitVec.ofNat 48 (beNat [w0, w1, w2, w3, w4, w5]) = w0 ++ w1 ++ w2 ++ w3 ++ w4 ++ w5 := by
  rw [beNat_six, BitVec.ofNat_toNat, BitVec.setWidth_eq]

theorem testSettings_named {x : Phase} {pattern : Pattern} {inverted mask : Bool} {timebase : Timebase} {lane : Byte}
    (limit w0 w1 w2 w3 w4 w5 : Byte) (hlane : lane.toNat = phaseNumber x) :
    testSettings [lane, patternCode pattern, markByte inverted, markByte mask, timebaseCode timebase, limit,
        w0, w1, w2, w3, w4, w5] =
      some ⟨x, pattern, inverted, mask, timebase, limit, w0 ++ w1 ++ w2 ++ w3 ++ w4 ++ w5⟩ := by
  simp only [testSettings, List.getD_cons_zero, List.getD_cons_succ, hlane, phaseOf_phaseNumber, patternOf_patternCode,
    markOf_markByte, timebaseOf_timebaseCode, List.drop_succ_cons, List.drop_zero, beNat_ofNat_six]

/-! ### LINK TEST START -/

section LinkTestStart

variable {s : State} {p : List Byte} {rest : List (List Byte)} (h : s.Executes 0x58#8 p rest) (hlength : p.length = 12)

include h hlength

theorem exec_linkTestStart_refused {status : Status}
    (hown : linkTestStart p (s.withCommands rest) = (s.withCommands rest).refuse status) :
    exec .linkTestStart s = .next (s.answered rest 0x58#8 status []) :=
  congrArg Host.Outcome.next (s.execute_of_refused h hlength hown)

theorem exec_linkTestStart_accepted {t : TestSettings} (hconfig : s.engine.state = .config) (ht : testSettings p = some t)
    (hlane : (s.lanes.get t.lane).state ≠ .test) :
    exec .linkTestStart s = .next
      (((s.withCheckers (s.checkers.modify t.lane (fun c => c.start t))).changeLane t.lane
        ((s.lanes.get t.lane).enterTest t.enterFrame)).answered rest 0x58#8 .ok []) := by
  refine congrArg Host.Outcome.next (s.execute_of_reply _ h (by simp [lengthIs, hlength]) ?_)
  simp only [← State.changeLane_withCommands]
  have hconfig' : ¬ (s.withCommands rest).engine.state ≠ .config := not_not_intro hconfig
  simp only [linkTestStart, if_neg hconfig', ht]
  exact if_neg hlane

end LinkTestStart

/-- The lane of an accepted LINK TEST START (R12, R177). -/
theorem Lane.enterTest_eq (l : Lane) (t : TestSettings) :
    l.enterTest t.enterFrame = { l with
      state := .test, queue := [], presentRun := 0, absentRun := 0, sequenceRun := 0
      down := l.down ++ [⟨.testEnter, t.lane, if t.pattern = .fixed then 1 else 0,
        if t.pattern = .fixed then t.fixedWord else 0⟩] } := by
  cases hpattern : t.pattern <;> simp [Lane.enterTest, TestSettings.enterFrame, hpattern, Lane.send, Lane.clearRuns]

/-- A lane that enters TEST: its phase's memory is emptied where the lane was in UP or SUSPECT. -/
theorem State.changeLane_entersTest {s : State} (hs : s.MonitorLaw) {x : Phase} {new : Lane} (hstate : new.state = .test)
    (hv : new.voltage = (s.lanes.get x).voltage) (hi : new.current = (s.lanes.get x).current) :
    s.changeLane x new =
      (((if (s.lanes.get x).state = .up ∨ (s.lanes.get x).state = .suspect then s.withEmptyMemory x else s).withLane x
        new).report (.laneLost x) false).report (.laneSuspect x) false := by
  have hwith : s.withChangedLane x new =
      (if (s.lanes.get x).state = .up ∨ (s.lanes.get x).state = .suspect then s.withEmptyMemory x else s).withLane x new := by
    rw [State.withChangedLane, hv, hstate]
    congr 1
    refine if_congr ?_ rfl rfl
    cases (s.lanes.get x).state <;> simp [LaneState.used]
  rw [State.changeLane_of_channels hs x new (by rw [hv]) (by rw [hi]), hwith, hstate]
  rfl

theorem State.emptied_withCheckers (s : State) (x : Phase) (k : PerPhase Checker) :
    (if ((s.withCheckers k).lanes.get x).state = .up ∨ ((s.withCheckers k).lanes.get x).state = .suspect then
        (s.withCheckers k).withEmptyMemory x else s.withCheckers k) =
      (if (s.lanes.get x).state = .up ∨ (s.lanes.get x).state = .suspect then s.withEmptyMemory x else s).withCheckers k :=
  (apply_ite (fun t : State => t.withCheckers k) _ (s.withEmptyMemory x) s).symm

/-! ### LINK TEST STOP (R182) -/

section LinkTestStop

variable {s : State} {lane : Byte} {rest : List (List Byte)} (h : s.Executes 0x59#8 [lane] rest)

include h

theorem exec_linkTestStop_refused {status : Status}
    (hown : linkTestStop [lane] (s.withCommands rest) = (s.withCommands rest).refuse status) :
    exec .linkTestStop s = .next (s.answered rest 0x59#8 status []) :=
  congrArg Host.Outcome.next (s.execute_of_refused h rfl hown)

theorem exec_linkTestStop_accepted {x : Phase} (hx : lane.toNat = phaseNumber x) (htest : (s.lanes.get x).state = .test) :
    exec .linkTestStop s = .next
      (((s.withCheckers (s.checkers.modify x Checker.toIdle)).changeLane x
        ((s.lanes.get x).leaveTest x (s.enabled x) s.aligner.latestIndex)).answered rest 0x59#8 .ok []) := by
  refine congrArg Host.Outcome.next (s.execute_of_reply _ h rfl ?_)
  have hended : (s.withCommands rest).endLaneTest x =
      (s.withCheckers (s.checkers.modify x Checker.toIdle)).withCommands rest := if_pos htest
  have htest' : ((s.withCommands rest).lanes.get x).state = .test := htest
  simp only [linkTestStop, List.getD_cons_zero, hx, phaseOf_phaseNumber, if_pos htest', hended]
  rw [State.changeLane_withCommands]
  rfl

end LinkTestStop

/-- The lane of LINK TEST STOP (R12, R14). -/
theorem Lane.leaveTest_eq {l : Lane} {x : Phase} {n : StrobeIndex} (htest : l.state = .test) (isEnabled : Bool) :
    l.leaveTest x isEnabled n =
      if isEnabled then { l with
        state := .seek, presentRun := 0, absentRun := 0, sequenceRun := 0, periodPosition := 0, periodErrors := 0
        down := l.down ++ [{ kind := .testExit, lane := x, index := n, data := 0 }]
        voltage := { l.voltage with previous := none, equalRun := 0 }
        current := { l.current with previous := none, equalRun := 0 } }
      else { l with
        state := .off, down := l.down ++ [{ kind := .testExit, lane := x, index := n, data := 0 }]
        voltage := detectorAtPowerOn, current := detectorAtPowerOn } := by
  cases isEnabled <;> simp [Lane.leaveTest, Lane.sendTestExit, htest, Lane.send, Lane.enterSeek, Lane.clearRuns,
    Lane.restartPeriod, Lane.restartHistories, Detector.restart, Lane.resetDetectors]

/-- A lane that leaves TEST. -/
theorem State.changeLane_leavesTest {s : State} (hs : s.MonitorLaw) {x : Phase} {new : Lane}
    (htest : (s.lanes.get x).state = .test) (hlost : new.state.isLost = false) (hsuspect : new.state.isSuspect = false)
    (hv : new.voltage.stuck = (s.lanes.get x).voltage.stuck ∨ new.voltage.stuck = false) :
    s.changeLane x new = ((s.withLane x new).report (.vStuck x) new.voltage.stuck).report (.iStuck x) new.current.stuck := by
  have hwith : s.withChangedLane x new = s.withLane x new := by
    rw [State.withChangedLane, if_neg]
    rcases hv with hv | hv <;> simp [htest, hv, LaneState.used]
  rw [State.changeLane_of_state hs x new (by rw [hlost, htest]; rfl) (by rw [hsuspect, htest]; rfl), hwith]

/-- A lane that leaves TEST with its channels as they are is changed and nothing is reported. -/
theorem State.changeLane_leavesTest_of_channels {s : State} (hs : s.MonitorLaw) {x : Phase} {new : Lane}
    (htest : (s.lanes.get x).state = .test) (hlost : new.state.isLost = false) (hsuspect : new.state.isSuspect = false)
    (hv : new.voltage.stuck = (s.lanes.get x).voltage.stuck) (hi : new.current.stuck = (s.lanes.get x).current.stuck) :
    s.changeLane x new = s.withLane x new := by
  have hvnames : FlagSet.names (s.withLane x new).monitor.conditions (.vStuck x) = new.voltage.stuck :=
    (hs.names_vStuck x).trans hv.symm
  have hinames : FlagSet.names (s.withLane x new).monitor.conditions (.iStuck x) = new.current.stuck :=
    (hs.names_iStuck x).trans hi.symm
  rw [State.changeLane_leavesTest hs htest hlost hsuspect (Or.inl hv), State.report_of_names _ _ _ hvnames,
    State.report_of_names _ _ _ hinames]

/-! ### A TEST frame and a timebase -/

theorem Checker.failsRunning_iff (d : Checker) : d.failsRunning = true ↔ d.timebase = .continuous ∧ d.failMark = false
    ∧ (d.limitCode.toNat / 8) * 4 ^ (d.limitCode.toNat % 8) < d.running := by
  simp only [failsRunning, Bool.and_eq_true, Bool.not_eq_true', decide_eq_true_eq, and_assoc]
  rfl

theorem State.changeChecker_of_passes {s : State} {x : Phase} {d : Checker}
    (hpasses : ¬ (d.timebase = .continuous ∧ d.failMark = false
      ∧ (d.limitCode.toNat / 8) * 4 ^ (d.limitCode.toNat % 8) < d.running)) :
    s.changeChecker x d = { s with checkers := s.checkers.set x d } :=
  if_neg (mt d.failsRunning_iff.mp hpasses)

theorem State.changeChecker_of_fails {s : State} {x : Phase} {d : Checker}
    (hfails : d.timebase = .continuous ∧ d.failMark = false
      ∧ (d.limitCode.toNat / 8) * 4 ^ (d.limitCode.toNat % 8) < d.running) :
    s.changeChecker x d = ({ s with checkers := s.checkers.set x { d with failMark := true } } : State).raise
      (.linkTestFail x) :=
  if_pos (d.failsRunning_iff.mpr hfails)

theorem exec_upDirectionFrame_test {s : State} {x : Phase} {f : LineFrame} {g : UpLaneFrame} (hready : s.Ready)
    (hg : parseLaneFrame f = some g) (hkind : g.kind = 5) (hlane : g.lane = phaseNumber x + 1)
    (htest : (s.lanes.get x).state = .test) :
    exec (.upDirectionFrame x f) s =
      .next (s.changeChecker x ((s.checkers.get x).frame s.aligner.latest g.index g.data)) := by
  have hidentity : ¬ (g.lane ≠ laneId x ∨ (g.kind ≠ 4 ∧ g.kind ≠ 5)) := by
    have hid : g.lane = laneId x := hlane
    simp [hid, hkind]
  rw [exec_upDirectionFrame hready, State.receiveFrame_of_parse (by simp [htest]) hg]
  simp only [State.judgeFrame, if_neg hidentity, if_pos hkind, if_pos htest]

theorem exec_timebaseEnd {s : State} (h : s.resetApplied = false) (x : Phase) :
    exec (.timebaseEnd x) s = .next (s.takeTimebaseEnd x) :=
  congrArg Host.Outcome.next (s.unlessReset_of h _)

theorem State.timebaseDue_iff (s : State) (x : Phase) :
    s.timebaseDue x = true ↔ ∃ n, (s.checkers.get x).timebase.length = some n ∧ n ≤ (s.checkers.get x).timebaseCount := by
  unfold State.timebaseDue
  cases (s.checkers.get x).timebase.length <;> simp

theorem Timebase.length_eq_some_iff (t : Timebase) (n : Nat) :
    t.length = some n ↔ (t, n) ∈ [(Timebase.pow16, 65536), (.pow20, 1048576), (.pow24, 16777216)] := by
  cases t <;> simp [Timebase.length, @eq_comm _ n]

theorem exec_timebaseEnd_due {s : State} (h : s.resetApplied = false) {x : Phase} {n : Nat}
    (hlength : ((s.checkers.get x).timebase, n) ∈ [(Timebase.pow16, 65536), (.pow20, 1048576), (.pow24, 16777216)])
    (hdue : n ≤ (s.checkers.get x).timebaseCount) : exec (.timebaseEnd x) s = .next (s.endTimebase x) := by
  rw [exec_timebaseEnd h, State.takeTimebaseEnd, if_pos]
  exact (s.timebaseDue_iff x).mpr ⟨n, (Timebase.length_eq_some_iff _ n).mpr hlength, hdue⟩

/-- Settles O60: each of the five parts is a case of one operation above. -/
theorem laneTestBeginsEndsAndJudges : Obligations.LaneTestBeginsEndsAndJudges := by
  rintro s rest x l c started memory hlaw rfl rfl rfl
  refine ⟨fun lane p i k t limit w0 w1 w2 w3 w4 w5 h => ⟨fun hstate => ?_, fun hconfig hrange => ?_,
      fun pattern inverted mask timebase hconfig hlane hp hi hk ht hstarted => ⟨fun htest => ?_, fun htest => ?_⟩⟩,
    fun lane h => ⟨fun hlane => ?_, fun hlane htest => ?_, fun n stopped hlane htest hlatest hstopped =>
      ⟨fun henabled => ?_, fun henabled => ?_⟩⟩,
    fun f g hready hg hkind hlane htest => ?_, fun n latched hreset hlatched => ⟨fun hcontinuous => ?_, fun hlength =>
      ⟨fun hbefore => ?_, fun hdue hpasses => ?_, fun hdue hlimit hmark => ?_⟩⟩⟩
  · exact exec_linkTestStart_refused h rfl (if_pos hstate)
  · refine exec_linkTestStart_refused h rfl ?_
    have hnone : testSettings [lane, p, i, k, t, limit, w0, w1, w2, w3, w4, w5] = none := by
      refine testSettings_eq_none ?_
      rcases hrange with h | h | h | h | h
      · exact Or.inl ((phaseOf_eq_none_iff _).mpr h)
      · exact Or.inr (Or.inl (patternOf_eq_none h))
      · exact Or.inr (Or.inr (Or.inl (markOf_eq_none h)))
      · exact Or.inr (Or.inr (Or.inr (Or.inl (markOf_eq_none h))))
      · exact Or.inr (Or.inr (Or.inr (Or.inr (timebaseOf_eq_none h))))
    have hconfig' : ¬ (s.withCommands rest).engine.state ≠ .config := not_not_intro hconfig
    simp only [linkTestStart, if_neg hconfig', hnone]
  · subst hp hi hk ht
    refine exec_linkTestStart_refused h rfl ?_
    have hconfig' : ¬ (s.withCommands rest).engine.state ≠ .config := not_not_intro hconfig
    simp only [linkTestStart, if_neg hconfig', testSettings_named limit w0 w1 w2 w3 w4 w5 hlane]
    exact if_pos htest
  · subst hp hi hk ht
    rw [exec_linkTestStart_accepted h rfl hconfig (testSettings_named limit w0 w1 w2 w3 w4 w5 hlane) htest,
      Lane.enterTest_eq, State.changeLane_entersTest, State.emptied_withCheckers, hstarted]
    · rfl
    · exact hlaw
    · rfl
    · rfl
    · rfl
  · refine exec_linkTestStop_refused h ?_
    simp only [linkTestStop, List.getD_cons_zero, (phaseOf_eq_none_iff _).mpr hlane]
  · refine exec_linkTestStop_refused h ?_
    simp only [linkTestStop, List.getD_cons_zero, hlane, phaseOf_phaseNumber]
    exact if_neg htest
  · rw [exec_linkTestStop_accepted h hlane htest, Lane.leaveTest_eq htest, if_pos henabled,
      State.changeLane_leavesTest_of_channels,
      hstopped, Aligner.latestIndex, hlatest]
    · rfl
    · exact hlaw
    · exact htest
    all_goals rfl
  · rw [exec_linkTestStop_accepted h hlane htest, Lane.leaveTest_eq htest, henabled, State.changeLane_leavesTest,
      hstopped, Aligner.latestIndex, hlatest]
    · rfl
    · exact hlaw
    · exact htest
    · rfl
    · rfl
    · exact Or.inr rfl
  · refine ⟨_, (s.checkers.get x).takes s.aligner.latest g.index g.data, fun hpasses => ?_, fun hfails => ?_⟩
    · rw [exec_upDirectionFrame_test hready hg hkind hlane htest, State.changeChecker_of_passes hpasses]
    · rw [exec_upDirectionFrame_test hready hg hkind hlane htest, State.changeChecker_of_fails hfails]
  · rw [exec_timebaseEnd hreset, State.takeTimebaseEnd, if_neg]
    rw [State.timebaseDue_iff, hcontinuous]
    rintro ⟨n, hn, -⟩
    exact absurd hn (by simp [Timebase.length])
  · rw [exec_timebaseEnd hreset, State.takeTimebaseEnd, if_neg]
    rw [State.timebaseDue_iff, (Timebase.length_eq_some_iff _ n).mpr hlength]
    rintro ⟨m, hm, hle⟩
    cases hm
    omega
  · rw [exec_timebaseEnd_due hreset hlength hdue, State.endTimebase, hlatched]
    refine congrArg Host.Outcome.next (if_neg ?_)
    rcases hpasses with h | h
    · have hwithin : ¬ limitOf (s.checkers.get x).limitCode < (s.checkers.get x).running := Nat.not_lt.mpr h
      simp [hwithin]
    · simp [h]
  · rw [exec_timebaseEnd_due hreset hlength hdue, State.endTimebase, hlatched]
    have habove : limitOf (s.checkers.get x).limitCode < (s.checkers.get x).running := hlimit
    exact congrArg Host.Outcome.next (if_pos (by simp [habove, hmark]))

end Sys2Proof.Machine

/-! # The release of a set (R8, R24 to R35) -/

namespace Sys2Proof.Machine

/-! ### When a release is due (R24) -/

theorem Lane.readyFor_iff (l : Lane) (n : StrobeIndex) :
    l.readyFor n = true ↔ (l.state.waited = true → ∃ f ∈ l.queue, f.index = n) := by
  cases hwaited : l.state.waited <;> simp [readyFor, hwaited]

theorem State.releaseDue_iff {s : State} {n : StrobeIndex} {rest : List StrobeIndex} (hrange : s.aligner.openRange = n :: rest) :
    s.releaseDue = true ↔ (∀ x, (s.lanes.get x).state.waited = true → ∃ f ∈ (s.lanes.get x).queue, f.index = n)
      ∨ n + 2 ∈ s.aligner.openRange := by
  have hready : (∀ x, (s.lanes.get x).readyFor n = true) ↔
      ((s.lanes.get .a).readyFor n = true ∧ (s.lanes.get .b).readyFor n = true) ∧ (s.lanes.get .c).readyFor n = true :=
    ⟨fun h => ⟨⟨h .a, h .b⟩, h .c⟩, fun ⟨⟨ha, hb⟩, hc⟩ x => by cases x <;> assumption⟩
  simp only [← Lane.readyFor_iff]
  rw [hready]
  unfold State.releaseDue
  simp only [hrange, Bool.or_eq_true, Bool.and_eq_true, List.contains_iff_mem]

theorem exec_setRelease {s : State} (h : s.Ready) : exec .setRelease s = .next s.releaseIfDue :=
  congrArg Host.Outcome.next (s.after_of_ready h _)

theorem exec_setRelease_due {s : State} {n : StrobeIndex} {rest : List StrobeIndex} (h : s.Ready)
    (hrange : s.aligner.openRange = n :: rest) (hdue : s.releaseDue = true) :
    exec .setRelease s = .next (s.releaseSet n rest) := by
  rw [exec_setRelease h, State.releaseIfDue, if_pos hdue, hrange]

/-! ### The lanes (R6, R8, R9, R13) -/

theorem Lane.handOver_of_on {l : Lane} (h : l.state ≠ .off ∧ l.state ≠ .test) (n : StrobeIndex) :
    l.handOver n = l.queue.find? (fun f => f.index == n) := by
  unfold handOver
  split
  next hstate => exact absurd hstate h.1
  next hstate => exact absurd hstate h.2
  all_goals rfl

theorem Lane.handOver_isSome {l : Lane} (h : l.state ≠ .off ∧ l.state ≠ .test) (n : StrobeIndex) :
    (l.handOver n).isSome = l.queue.any (fun f => f.index == n) := by
  rw [Lane.handOver_of_on h, List.isSome_find?]

theorem LaneState.waited_iff (st : LaneState) : st.waited = true ↔ st = .seek ∨ st = .up ∨ st = .suspect := by
  cases st <;> simp [waited]

theorem LaneState.used_iff (st : LaneState) : st.used = true ↔ st = .up ∨ st = .suspect := by
  cases st <;> simp [used]

theorem Lane.afterRelease_of_waited {l : Lane} (h : l.state.waited = true) (n : StrobeIndex) :
    l.afterRelease n = ((l.dropEntry n).countRuns (l.queue.any (fun f => f.index == n))).countRelease := by
  have hon : l.state ≠ .off ∧ l.state ≠ .test := by
    constructor <;> intro hstate <;> rw [hstate] at h <;> exact absurd h (by decide)
  rw [← Lane.handOver_isSome hon]
  rcases (LaneState.waited_iff _).mp h with hstate | hstate | hstate <;> simp [afterRelease, hstate]

/-- Settles O22: a lane is judged by its state and by whether it holds the released frame. -/
theorem releaseMovesTheRunsOfALane : Obligations.ReleaseMovesTheRunsOfALane := by
  rintro s t n rest x l hready hrange hdue rfl hstep
  rw [exec_setRelease_due hready hrange hdue] at hstep
  cases hstep
  rw [State.releaseSet_lanes_get]
  generalize s.lanes.get x = l
  refine ⟨fun hstate => ?_, fun hstate => ?_, fun hstate hheld => ?_, fun hstate hheld hrun => ?_, fun hstate hheld hrun => ?_,
    fun hwaited hheld hrun => ?_, fun hwaited hheld hrun => ?_⟩
  · rcases hstate with h | h <;> simp [Lane.afterRelease, h]
  · simp [Lane.afterRelease, hstate, Lane.dropEntry]
  · rw [Lane.afterRelease_of_waited (by rcases hstate with h | h <;> rw [h] <;> rfl), hheld]
    rcases hstate with h | h <;> simp [Lane.countRuns, Lane.countRelease, Lane.dropEntry, h, LaneState.waited]
  · have hne : l.presentRun + 1 ≠ 16 := by omega
    rw [Lane.afterRelease_of_waited (by rw [hstate]; rfl), hheld]
    simp [Lane.countRuns, Lane.countRelease, Lane.dropEntry, hstate, LaneState.waited, hne]
  · rw [Lane.afterRelease_of_waited (by rw [hstate]; rfl), hheld]
    simp [Lane.countRuns, Lane.countRelease, Lane.dropEntry, hstate, LaneState.waited, hrun]
  · have hne : l.absentRun + 1 ≠ 8 := by omega
    rw [Lane.afterRelease_of_waited hwaited, hheld]
    by_cases hseek : l.state = .seek
    · simp [Lane.countRuns, Lane.countRelease, Lane.dropEntry, hseek, LaneState.waited, hne]
    · simp [Lane.countRuns, Lane.countRelease, Lane.dropEntry, hseek, hwaited, hne]
  · rw [Lane.afterRelease_of_waited hwaited, hheld]
    by_cases hseek : l.state = .seek <;> simp [Lane.countRuns, Lane.countRelease, Lane.dropEntry, hseek, LaneState.waited,
      hrun, Lane.restartHistories, Detector.restart, satInc_eq_min, top32]

/-! ### The classification of a phase (R25, R31 to R34) -/

/-- A phase at the release of set n: its channels, and its memory after them. -/
def State.classified (s : State) (n : StrobeIndex) (x : Phase) : SetPhase × CycleMemory :=
  classify s.tables.meterActive ((s.lanes.get x).handsOver n) (s.aligner.cycles.get x)

theorem HandOver.usableFrame_of_frame {l : Lane} {n : StrobeIndex} {f : SampleFrame}
    (hused : l.state = .up ∨ l.state = .suspect) (hfound : l.queue.find? (fun f => f.index == n) = some f) :
    (l.handsOver n).usableFrame = .ok f := by
  have hframe : l.handOver n = some f := by
    rw [Lane.handOver_of_on, hfound]
    rcases hused with h | h <;> simp [h]
  simp [usableFrame, Lane.handsOver, (LaneState.used_iff _).mpr hused, hframe]

theorem HandOver.usableFrame_of_none {l : Lane} {n : StrobeIndex}
    (hnone : l.state.used = false ∨ l.queue.find? (fun f => f.index == n) = none) :
    (l.handsOver n).usableFrame = .error .notUsable ∨ (l.handsOver n).usableFrame = .error .missedDeadline := by
  cases hused : l.state.used with
  | false => exact Or.inl (by simp [usableFrame, Lane.handsOver, hused])
  | true =>
    have hframe : l.handOver n = none := by
      rw [Lane.handOver_of_on, hnone.resolve_left (by simp [hused])]
      constructor <;> intro h <;> rw [h] at hused <;> exact absurd hused (by decide)
    exact Or.inr (by simp [usableFrame, Lane.handsOver, hused, hframe])

theorem classify_of_voltage {meter : Option Meter} {h : HandOver} {v : Int} (hv : h.voltage = .ok v) (m : CycleMemory) :
    (classify meter h m).1 = ⟨.present v, h.current⟩ ∧ (classify meter h m).2.runCount = 0
      ∧ (classify meter h m).2.estimated = m.estimated
      ∧ ∀ t, meter = some t → (classify meter h m).2.codes = pushCode t.cycleLen m.codes v := by
  refine ⟨by simp [classify, hv], by simp [classify, hv], by simp [classify, hv], ?_⟩
  rintro t rfl
  simp [classify, hv]

/-- A voltage that is neither present nor estimated pushes nothing (R34). -/
theorem classify_of_absent {meter : Option Meter} {h : HandOver} {cause : Absence} (hv : h.voltage = .error cause)
    {m : CycleMemory} (hnot : ∀ t, meter = some t → cause = .frontEndFault → t.subst < 2 ∨ h.current = none
      ∨ m.codes.length ≠ t.cycleLen ∨ t.substMax ≤ m.runCount) :
    classify meter h m = (⟨.absent, h.current⟩, m) := by
  simp only [classify, hv]
  cases hcodes : m.codes with
  | nil => rfl
  | cons oldest older =>
    rw [hcodes] at hnot
    refine if_neg ?_
    rintro ⟨hpolicy, hcause, hcurrent, hfull, hrun⟩
    match meter with
    | none => exact absurd hpolicy (by simp [policyOf])
    | some t =>
      rcases hnot t rfl hcause with h | h | h | h
      · have hsubst : t.subst = 0 ∨ t.subst = 1 := by omega
        rcases hsubst with h | h <;> simp [policyOf, h] at hpolicy
      · simp [h] at hcurrent
      · exact h (of_decide_eq_true hfull)
      · exact absurd hrun (Nat.not_lt.mpr h)

/-- An estimate takes the oldest code and pushes it back (R31, R32). -/
theorem classify_of_estimate {t : Meter} {h : HandOver} (hv : h.voltage = .error .frontEndFault) {m : CycleMemory}
    (hcurrent : h.current.isSome = true) (hsubst : t.subst = 2) {oldest : Int} {older : List Int}
    (hcodes : m.codes = oldest :: older) (hfull : older.length + 1 = t.cycleLen) (hrun : m.runCount < t.substMax) :
    classify (some t) h m = (⟨.estimated oldest, h.current⟩,
      { codes := older ++ [oldest], runCount := m.runCount + 1, estimated := min (m.estimated + 1) 4294967295 }) := by
  have hpush : pushCode t.cycleLen (oldest :: older) oldest = older ++ [oldest] := by
    simp [pushCode, hfull]
  simp only [classify, hv, hcodes]
  rw [if_pos, hpush, satInc_eq_min]
  · rfl
  · simp [policyOf, hsubst, hcurrent, hfull, hrun]

/-! ### The status word (R27, R168) -/

theorem statusBit_getLsbD {i : Nat} (b : Bool) (k : Nat) (hi : i < 16) :
    (statusBit i b).getLsbD k = (b && decide (k = i)) := by
  cases b with
  | false => simp [statusBit]
  | true =>
    simp only [statusBit, if_true, Bool.true_and]
    by_cases hk : k = i
    · subst hk
      simp [hi]
    · simp only [hk, decide_false, BitVec.getLsbD_shiftLeft]
      by_cases hlt : k < i
      · simp [hlt]
      · simp [show k - i ≠ 0 by omega, BitVec.getLsbD_one]

theorem statusAtRelease_getLsbD (s : State) (h : PerPhase HandOver) (p : PerPhase SetPhase) :
    let w := s.statusAtRelease h p
    (∀ x, w.getLsbD (phaseNumber x) = (p.get x).isPresent ∧ w.getLsbD (3 + phaseNumber x) = (p.get x).isEstimated
        ∧ w.getLsbD (6 + phaseNumber x) = false)
      ∧ w.getLsbD 9 = s.aligner.windowClosed ∧ w.getLsbD 10 = s.aligner.bandChanged ∧ w.getLsbD 11 = s.isHold p
      ∧ w.getLsbD 12 = (decide (h.a.state = .suspect) || decide (h.b.state = .suspect) || decide (h.c.state = .suspect))
      ∧ w.getLsbD 13 = (h.a.overranged || h.b.overranged || h.c.overranged)
      ∧ w.getLsbD 14 = s.aligner.directionReversed ∧ w.getLsbD 15 = s.windowsRun := by
  simp only [State.statusAtRelease, windowClosedBit, bandChangedBit, holdBit, suspectAnyBit, overrangeAnyBit,
    directionReversedBit, meteringBit, BitVec.getLsbD_or]
  refine ⟨fun x => ?_, ?_⟩
  · cases x <;> simp [statusBit_getLsbD, phaseNumber, -BitVec.getLsbD_eq_getElem]
  · simp [statusBit_getLsbD, -BitVec.getLsbD_eq_getElem]

/-! ### The state after a release -/

/-- A link that differs from another in its waiting notice at most. -/
theorem Link.with_urgent_eq {a b : Link}
    (h : (a.downlink, a.commands, a.responses, a.responseInProgress, a.reports, a.reportInProgress, a.paused, a.rotation, a.uplink)
      = (b.downlink, b.commands, b.responses, b.responseInProgress, b.reports, b.reportInProgress, b.paused, b.rotation,
        b.uplink)) : { a with urgent := b.urgent } = b := by
  cases a
  cases b
  simp only [Prod.mk.injEq] at h
  simp only [Link.mk.injEq]
  tauto

theorem State.changeLane_cycles_get (s : State) (x : Phase) (new : Lane) (y : Phase) :
    (s.changeLane x new).aligner.cycles.get y =
      if y = x ∧ (((s.lanes.get x).state.used && !new.state.used) || (!(s.lanes.get x).voltage.stuck && new.voltage.stuck))
      then (s.aligner.cycles.get y).empty else s.aligner.cycles.get y := by
  simp only [State.changeLane, State.reportLane_frame]
  by_cases hyx : y = x
  · subst hyx
    simp only [true_and]
    split <;> simp [phase_get_modify]
  · simp only [hyx, false_and, if_false]
    split <;> simp [phase_get_modify, hyx]

/-- A release leaves a lane's channel stuck as it is. -/
theorem Lane.afterRelease_stuck (l : Lane) (n : StrobeIndex) : (l.afterRelease n).voltage.stuck = l.voltage.stuck := by
  have hruns (l : Lane) (held : Bool) : (l.countRuns held).voltage.stuck = l.voltage.stuck := by
    unfold countRuns
    split
    · dsimp only
      split
      · split <;> rfl
      · rfl
    · dsimp only
      split
      · split <;> rfl
      · split <;> rfl
  have hcount (l : Lane) : l.countRelease.voltage = l.voltage := by
    unfold countRelease
    split <;> rfl
  unfold afterRelease
  split
  · rfl
  · rfl
  · rfl
  all_goals rw [hcount, hruns]; rfl

/-- What the lanes hand over at the release of set n. -/
def State.handOvers (s : State) (n : StrobeIndex) : PerPhase HandOver := s.lanes.map (fun l => l.handsOver n)

/-- The channels of set n at its release. -/
def State.classifiedPhases (s : State) (n : StrobeIndex) : PerPhase SetPhase :=
  ⟨(s.classified n .a).1, (s.classified n .b).1, (s.classified n .c).1⟩

theorem State.classifiedPhases_get (s : State) (n : StrobeIndex) (x : Phase) :
    (s.classifiedPhases n).get x = (s.classified n x).1 := by
  cases x <;> rfl

/-- The record of set n (R26). -/
def State.recordOf (s : State) (n : StrobeIndex) : SetRecord :=
  { index := n, status := s.statusAtRelease (s.handOvers n) (s.classifiedPhases n), phases := s.classifiedPhases n
    forNetting := s.windowsRun }

/-- Some phase of set n is ESTIMATED (R28). -/
def State.estimates (s : State) (n : StrobeIndex) : Bool :=
  (s.classified n .a).1.isEstimated || (s.classified n .b).1.isEstimated || (s.classified n .c).1.isEstimated

theorem State.estimates_iff (s : State) (n : StrobeIndex) :
    s.estimates n = true ↔ ∃ x, ((s.classifiedPhases n).get x).isEstimated = true := by
  simp only [State.estimates, Bool.or_eq_true]
  constructor
  · rintro ((h | h) | h)
    exacts [⟨.a, h⟩, ⟨.b, h⟩, ⟨.c, h⟩]
  · rintro ⟨x, h⟩
    cases x
    exacts [Or.inl (Or.inl h), Or.inl (Or.inr h), Or.inr h]

/-- The state in which the record has been handed on and ESTIMATING reported; the lanes follow (R8). -/
def State.withRecord (s : State) (n : StrobeIndex) (rest : List StrobeIndex) : State :=
  ({ s with
    aligner := { s.aligner with
      openRange := rest, windowClosed := false, bandChanged := false, directionReversed := false
      cycles := ⟨(s.classified n .a).2, (s.classified n .b).2, (s.classified n .c).2⟩, estimating := s.estimates n }
    released := s.released ++ [s.recordOf n] } : State).report .estimating (s.estimates n)

theorem State.releaseSet_eq (s : State) (n : StrobeIndex) (rest : List StrobeIndex) :
    s.releaseSet n rest = (((s.withRecord n rest).changeLane .a ((s.lanes.get .a).afterRelease n)).changeLane .b
      ((s.lanes.get .b).afterRelease n)).changeLane .c ((s.lanes.get .c).afterRelease n) := by
  have hlanes : (s.withRecord n rest).lanes = s.lanes := by simp [State.withRecord]
  have hother (t : State) (x y : Phase) (l : Lane) (h : y ≠ x) : (t.changeLane x l).lanes.get y = t.lanes.get y := by
    rw [State.changeLane_lanes, PerPhase.get_set, if_neg h]
  have hrelease : s.releaseSet n rest = (((s.withRecord n rest).changeLane .a
      (((s.withRecord n rest).lanes.get .a).afterRelease n)).changeLane .b
      ((((s.withRecord n rest).changeLane .a (((s.withRecord n rest).lanes.get .a).afterRelease n)).lanes.get .b).afterRelease
        n)).changeLane .c
      (((((s.withRecord n rest).changeLane .a (((s.withRecord n rest).lanes.get .a).afterRelease n)).changeLane .b
        ((((s.withRecord n rest).changeLane .a (((s.withRecord n rest).lanes.get .a).afterRelease n)).lanes.get
          .b).afterRelease n)).lanes.get .c).afterRelease n) := rfl
  rw [hrelease, hother _ .b .c _ (by decide), hother _ .a .c _ (by decide), hother _ .a .b _ (by decide), hlanes]

/-- The lane goes from UP or SUSPECT to LOST with the release of set n (R9). -/
def Lane.losesUse (l : Lane) (n : StrobeIndex) : Bool := l.state.used && !(l.afterRelease n).state.used

theorem State.releaseSet_cycles_get (s : State) (n : StrobeIndex) (rest : List StrobeIndex) (x : Phase) :
    (s.releaseSet n rest).aligner.cycles.get x =
      if (s.lanes.get x).losesUse n then (s.classified n x).2.empty else (s.classified n x).2 := by
  have hlanes : (s.withRecord n rest).lanes = s.lanes := by simp [State.withRecord]
  have hcycles : (s.withRecord n rest).aligner.cycles.get x = (s.classified n x).2 := by
    simp only [State.withRecord, State.report_frame]
    cases x <;> rfl
  have hstuck (l : Lane) : (!l.voltage.stuck && (l.afterRelease n).voltage.stuck) = false := by
    rw [Lane.afterRelease_stuck, Bool.not_and_self]
  rw [State.releaseSet_eq]
  simp only [State.changeLane_cycles_get, State.changeLane_lanes, PerPhase.get_set, hlanes, hcycles]
  cases x <;> simp [hstuck, Lane.losesUse]

/-- A lane in use that holds the frame of set n stays in use; one without it is lost with its eighth missed set (R9). -/
theorem Lane.losesUse_iff (l : Lane) (n : StrobeIndex) : l.losesUse n = true ↔
    (l.state = .up ∨ l.state = .suspect) ∧ l.queue.any (fun f => f.index == n) = false ∧ l.absentRun = 7 := by
  cases hused : l.state.used with
  | false =>
    have hnot : ¬ (l.state = .up ∨ l.state = .suspect) := by
      rw [← LaneState.used_iff, hused]
      exact Bool.false_ne_true
    simp [losesUse, hused, hnot]
  | true =>
    have hup := (LaneState.used_iff _).mp hused
    rw [losesUse, Lane.afterRelease_of_waited (by rcases hup with h | h <;> rw [h] <;> rfl), hused]
    cases l.queue.any (fun f => f.index == n) with
    | true => rcases hup with h | h <;> simp [countRuns, countRelease, dropEntry, h, LaneState.waited, LaneState.used]
    | false =>
      by_cases hrun : l.absentRun = 7
      · rcases hup with h | h <;> simp [countRuns, countRelease, dropEntry, h, LaneState.waited, LaneState.used, hrun,
          restartHistories]
      · have hne : l.absentRun + 1 ≠ 8 := by omega
        rcases hup with h | h <;> simp [countRuns, countRelease, dropEntry, h, LaneState.waited, LaneState.used, hrun]

theorem State.changeLane_estimating (s : State) (x : Phase) (new : Lane) :
    (s.changeLane x new).monitor.conditions.getLsbD 25 = s.monitor.conditions.getLsbD 25 := by
  have hindex : Flag.estimating.index = 25 := rfl
  have hnames (t : State) (f : Flag) (v : Bool) (hf : f.index ≠ 25) :
      (t.report f v).monitor.conditions.getLsbD 25 = t.monitor.conditions.getLsbD 25 := by
    have := t.names_report f v .estimating
    rwa [if_neg (by rw [hindex]; exact hf.symm)] at this
  rw [State.changeLane_eq_reports, hnames, hnames, hnames, hnames, State.withChangedLane_monitor]
  all_goals cases x <;> decide

end Sys2Proof.Machine

/-! # The set record of a release (R24 to R35) -/

namespace Sys2Proof.Machine

/-! ### One phase of a released set -/

section Classified

variable {s : State} {n : StrobeIndex} {x : Phase}

theorem State.classified_current (s : State) (n : StrobeIndex) (x : Phase) :
    (s.classified n x).1.current = ((s.lanes.get x).handsOver n).current := by
  simp only [State.classified, classify]
  split
  · rfl
  · split
    · simp only [apply_ite (fun p : SetPhase × CycleMemory => p.1.current), ite_self]
    · rfl

variable {f : SampleFrame} (hused : (s.lanes.get x).state = .up ∨ (s.lanes.get x).state = .suspect)
  (hfound : (s.lanes.get x).queue.find? (fun f => f.index == n) = some f)

include hused hfound

theorem State.classified_present (hstuck : (s.lanes.get x).voltage.stuck = false) (hfault : f.vFault = false) :
    (s.classified n x).1.voltage = .present f.v ∧ (s.classified n x).2.runCount = 0
      ∧ (s.classified n x).2.estimated = (s.aligner.cycles.get x).estimated
      ∧ ∀ m, s.tables.meterActive = some m → (s.classified n x).2.codes =
          pushCode m.cycleLen (s.aligner.cycles.get x).codes f.v := by
  have hv : ((s.lanes.get x).handsOver n).voltage = .ok f.v := by
    have hstuck' : ((s.lanes.get x).handsOver n).vStuck = false := hstuck
    simp [HandOver.voltage, HandOver.usableFrame_of_frame hused hfound, hstuck', hfault]
  obtain ⟨hphase, hrun, hestimated, hcodes⟩ := classify_of_voltage (meter := s.tables.meterActive) hv (s.aligner.cycles.get x)
  exact ⟨by rw [State.classified, hphase], hrun, hestimated, hcodes⟩

theorem State.classified_stuck (hstuck : (s.lanes.get x).voltage.stuck = true) :
    (s.classified n x).1.voltage = .absent ∧ (s.classified n x).2 = s.aligner.cycles.get x := by
  have hv : ((s.lanes.get x).handsOver n).voltage = .error .stuck := by
    have hstuck' : ((s.lanes.get x).handsOver n).vStuck = true := hstuck
    simp [HandOver.voltage, HandOver.usableFrame_of_frame hused hfound, hstuck']
  rw [State.classified, classify_of_absent hv (fun t _ h => absurd h (by decide))]
  exact ⟨rfl, rfl⟩

theorem State.handsOver_frontEndFault (hstuck : (s.lanes.get x).voltage.stuck = false) (hfault : f.vFault = true) :
    ((s.lanes.get x).handsOver n).voltage = .error .frontEndFault := by
  have hstuck' : ((s.lanes.get x).handsOver n).vStuck = false := hstuck
  simp [HandOver.voltage, HandOver.usableFrame_of_frame hused hfound, hstuck', hfault]

theorem State.classified_current_of_frame :
    (s.classified n x).1.current = if (s.lanes.get x).current.stuck || f.iFault then none else some f.i := by
  rw [State.classified_current, HandOver.current, HandOver.usableFrame_of_frame hused hfound]
  rfl

/-- A phase whose lane is in use and holds the frame of set n (R25, R31, R32, R34). -/
theorem State.classified_of_frame :
    let l := s.lanes.get x
    let memory := s.aligner.cycles.get x
    let phase := (s.classified n x).1
    let memory' := (s.classified n x).2
    (l.voltage.stuck = false → f.vFault = false → phase.voltage = .present f.v
        ∧ memory'.runCount = 0 ∧ memory'.estimated = memory.estimated
        ∧ ∀ m, s.tables.meterActive = some m → memory'.codes =
            (if memory.codes.length < m.cycleLen then memory.codes else memory.codes.drop 1) ++ [f.v])
      ∧ (l.voltage.stuck = true → phase.voltage = .absent ∧ memory' = memory)
      ∧ (l.current.stuck = false → f.iFault = false → phase.current = some f.i)
      ∧ ((l.current.stuck = true ∨ f.iFault = true) → phase.current = none)
      ∧ (l.voltage.stuck = false → f.vFault = true → (∀ m, s.tables.meterActive = some m → m.subst < 2) →
          phase.voltage = .absent ∧ memory' = memory)
      ∧ (∀ m, l.voltage.stuck = false → f.vFault = true → s.tables.meterActive = some m → m.subst = 2 →
          (phase.current = none ∨ memory.codes.length ≠ m.cycleLen ∨ m.substMax ≤ memory.runCount) →
          phase.voltage = .absent ∧ memory' = memory)
      ∧ (∀ m oldest older, l.voltage.stuck = false → f.vFault = true → phase.current.isSome = true →
          s.tables.meterActive = some m → m.subst = 2 →
          memory.codes = oldest :: older → older.length + 1 = m.cycleLen → memory.runCount < m.substMax →
          phase.voltage = .estimated oldest
            ∧ memory' = { codes := older ++ [oldest], runCount := memory.runCount + 1
                          estimated := min (memory.estimated + 1) 4294967295 }) := by
  have hcurrent := State.classified_current_of_frame hused hfound
  refine ⟨fun hstuck hfault => ?_, fun hstuck => State.classified_stuck hused hfound hstuck, fun hstuck hfault => ?_,
    fun habsent => ?_, fun hstuck hfault hsubst => ?_, fun m hstuck hfault hm hsubst hnot => ?_,
    fun m oldest older hstuck hfault hsome hm hsubst hcodes hfull hrun => ?_⟩
  · obtain ⟨hvoltage, hrun, hestimated, hpush⟩ := State.classified_present hused hfound hstuck hfault
    refine ⟨hvoltage, hrun, hestimated, fun m hm => ?_⟩
    rw [hpush m hm, pushCode]
    split <;> rfl
  · rw [hcurrent, hstuck, hfault]
    rfl
  · rw [hcurrent, if_pos]
    rcases habsent with h | h <;> simp [h]
  · have hv := State.handsOver_frontEndFault hused hfound hstuck hfault
    rw [State.classified, classify_of_absent hv (fun m hm _ => Or.inl (hsubst m hm))]
    exact ⟨rfl, rfl⟩
  · have hv := State.handsOver_frontEndFault hused hfound hstuck hfault
    rw [State.classified_current] at hnot
    have hnot' : ∀ t, s.tables.meterActive = some t → Absence.frontEndFault = .frontEndFault → t.subst < 2
        ∨ ((s.lanes.get x).handsOver n).current = none ∨ (s.aligner.cycles.get x).codes.length ≠ t.cycleLen
        ∨ t.substMax ≤ (s.aligner.cycles.get x).runCount := by
      intro t ht _
      cases hm.symm.trans ht
      exact Or.inr hnot
    rw [State.classified, classify_of_absent hv hnot']
    exact ⟨rfl, rfl⟩
  · have hv := State.handsOver_frontEndFault hused hfound hstuck hfault
    rw [State.classified_current] at hsome
    rw [State.classified, hm, classify_of_estimate hv hsome hsubst hcodes hfull hrun]
    exact ⟨rfl, rfl⟩

end Classified

/-- A lane that is not in use, or without the frame of set n, hands nothing over (R25). -/
theorem State.classified_none {s : State} {n : StrobeIndex} {x : Phase}
    (hnone : (s.lanes.get x).state.used = false ∨ (s.lanes.get x).queue.find? (fun f => f.index == n) = none) :
    s.classified n x = (⟨.absent, none⟩, s.aligner.cycles.get x) := by
  have hcause := HandOver.usableFrame_of_none hnone
  have hcurrent : ((s.lanes.get x).handsOver n).current = none := by
    rcases hcause with h | h <;> rw [HandOver.current, h]
  have hv : ∃ cause, ((s.lanes.get x).handsOver n).voltage = .error cause ∧ cause ≠ .frontEndFault := by
    rcases hcause with h | h
    · exact ⟨.notUsable, by rw [HandOver.voltage, h], by decide⟩
    · exact ⟨.missedDeadline, by rw [HandOver.voltage, h], by decide⟩
  obtain ⟨cause, hv, hcause⟩ := hv
  rw [State.classified, classify_of_absent hv (fun t _ h => absurd h hcause), hcurrent]

/-! ### The marks of the status word -/

theorem State.isHold_iff (s : State) (p : PerPhase SetPhase) :
    s.isHold p = true ↔ ∃ m x, s.tables.meterActive = some m ∧ m.subst = 0 ∧ m.lanes.testBit (phaseNumber x) = true
      ∧ (p.get x).isPresent = false := by
  have hpolicy (m : Meter) : policyOf (some m) = .holdAll ↔ m.subst = 0 := by
    simp only [policyOf]
    generalize m.subst = k
    match k with
    | 0 | 1 | k + 2 => simp
  unfold State.isHold
  cases hm : s.tables.meterActive with
  | none => simp [policyOf]
  | some m =>
    simp only [State.enabled, hm, Bool.and_eq_true, Bool.or_eq_true, decide_eq_true_eq, hpolicy, Bool.not_eq_true']
    constructor
    · rintro ⟨hsubst, (⟨hlane, hp⟩ | ⟨hlane, hp⟩) | ⟨hlane, hp⟩⟩
      exacts [⟨m, .a, rfl, hsubst, hlane, hp⟩, ⟨m, .b, rfl, hsubst, hlane, hp⟩, ⟨m, .c, rfl, hsubst, hlane, hp⟩]
    · rintro ⟨_, x, ⟨⟩, hsubst, hlane, hp⟩
      refine ⟨hsubst, ?_⟩
      cases x
      exacts [Or.inl (Or.inl ⟨hlane, hp⟩), Or.inl (Or.inr ⟨hlane, hp⟩), Or.inr ⟨hlane, hp⟩]

theorem perPhase_exists_iff {p : Phase → Prop} : ((p .a ∨ p .b) ∨ p .c) ↔ ∃ x, p x := by
  constructor
  · rintro ((h | h) | h)
    exacts [⟨.a, h⟩, ⟨.b, h⟩, ⟨.c, h⟩]
  · rintro ⟨x, h⟩
    cases x
    exacts [Or.inl (Or.inl h), Or.inl (Or.inr h), Or.inr h]

theorem Lane.handsOver_overranged (l : Lane) (n : StrobeIndex) : (l.handsOver n).overranged = true ↔
    ∃ f, l.state.used = true ∧ l.queue.find? (fun f => f.index == n) = some f ∧ (f.vOvr || f.iOvr) = true := by
  unfold HandOver.overranged
  cases hused : l.state.used with
  | false => simp [handsOver, hused]
  | true =>
    have hframe : (l.handsOver n).frame = l.queue.find? (fun f => f.index == n) :=
      Lane.handOver_of_on (by constructor <;> intro h <;> rw [h] at hused <;> exact absurd hused (by decide)) n
    rw [hframe]
    cases l.queue.find? (fun f => f.index == n) <;> simp [handsOver, hused]

theorem State.recordOf_status (s : State) (n : StrobeIndex) :
    ((s.recordOf n).status.getLsbD 12 = true ↔ ∃ x, (s.lanes.get x).state = .suspect)
      ∧ ((s.recordOf n).status.getLsbD 13 = true ↔ ∃ x f, (s.lanes.get x).state.used = true
        ∧ (s.lanes.get x).queue.find? (fun f => f.index == n) = some f ∧ (f.vOvr || f.iOvr) = true) := by
  obtain ⟨-, -, -, -, hsuspect, hoverrange, -⟩ := statusAtRelease_getLsbD s (s.handOvers n) (s.classifiedPhases n)
  constructor
  · rw [State.recordOf, hsuspect]
    simp only [Bool.or_eq_true, decide_eq_true_eq]
    exact perPhase_exists_iff (p := fun x => (s.lanes.get x).state = .suspect)
  · rw [State.recordOf, hoverrange]
    simp only [← Lane.handsOver_overranged]
    rw [Bool.or_eq_true, Bool.or_eq_true]
    exact perPhase_exists_iff (p := fun x => ((s.lanes.get x).handsOver n).overranged = true)

/-! ### The release -/

theorem State.releaseSet_released (s : State) (n : StrobeIndex) (rest : List StrobeIndex) :
    (s.releaseSet n rest).released = s.released ++ [s.recordOf n] := by
  simp [State.releaseSet_eq, State.withRecord]

theorem State.releaseSet_conditions (s : State) (n : StrobeIndex) (rest : List StrobeIndex) :
    (s.releaseSet n rest).monitor.conditions.getLsbD 25 = s.estimates n := by
  rw [State.releaseSet_eq, State.changeLane_estimating, State.changeLane_estimating, State.changeLane_estimating,
    State.withRecord]
  exact (State.names_report _ .estimating _ .estimating).trans (if_pos rfl)

theorem State.releaseSet_marks (s : State) (n : StrobeIndex) (rest : List StrobeIndex) :
    (s.releaseSet n rest).aligner.openRange = rest ∧ (s.releaseSet n rest).aligner.estimating = s.estimates n
      ∧ (s.releaseSet n rest).aligner.windowClosed = false ∧ (s.releaseSet n rest).aligner.bandChanged = false
      ∧ (s.releaseSet n rest).aligner.directionReversed = false := by
  simp [State.releaseSet_eq, State.withRecord]

/-- Settles O21: the record is `State.recordOf`, whose phases are `State.classified`. -/
theorem releaseFormsTheSetRecord : Obligations.ReleaseFormsTheSetRecord := by
  intro s n rest hready hrange complete
  refine ⟨fun hnot hdeadline => ?_, fun hdue => ?_⟩
  · rw [exec_setRelease hready, State.releaseIfDue, if_neg]
    rw [State.releaseDue_iff hrange]
    exact not_or.mpr ⟨hnot, hdeadline⟩
  obtain ⟨hopen, hestimating, hclosed, hchanged, hreversed⟩ := s.releaseSet_marks n rest
  obtain ⟨hphases, hwc, hbc, hhold, -, -, hdr, hmetering⟩ := statusAtRelease_getLsbD s (s.handOvers n) (s.classifiedPhases n)
  obtain ⟨hsuspect, hoverrange⟩ := s.recordOf_status n
  refine ⟨_, s.recordOf n, exec_setRelease_due hready hrange ((State.releaseDue_iff hrange).mpr hdue),
    s.releaseSet_released n rest, hopen, rfl, rfl, fun x => ⟨fun f hused hfound => ?_, fun hnone => ?_⟩, ?_, ?_, hphases, hwc, hbc,
    hdr, hmetering, ?_, hsuspect, hoverrange, hclosed, hchanged, hreversed, ?_, ?_, ?_⟩
  · have hheld : (s.lanes.get x).queue.any (fun f => f.index == n) = true := by
      rw [← List.isSome_find?, hfound, Option.isSome_some]
    have hkept : ¬ (s.lanes.get x).losesUse n = true := by
      rw [Lane.losesUse_iff, hheld]
      exact fun h => absurd h.2.1 (by decide)
    have hphase : ((s.recordOf n).phases.get x) = (s.classified n x).1 := s.classifiedPhases_get n x
    rw [hphase, State.releaseSet_cycles_get, if_neg hkept]
    exact State.classified_of_frame hused hfound
  · have hphase : ((s.recordOf n).phases.get x) = (s.classified n x).1 := s.classifiedPhases_get n x
    rw [hphase, State.releaseSet_cycles_get, State.classified_none hnone]
    refine ⟨rfl, rfl, ?_, fun hused hrun => ?_, fun hkept => ?_⟩
    · split <;> rfl
    · have hmissed : (s.lanes.get x).queue.any (fun f => f.index == n) = false := by
        rw [← List.isSome_find?, hnone.resolve_left (by simp [hused]), Option.isSome_none]
      rw [if_pos ((Lane.losesUse_iff _ n).mpr ⟨(LaneState.used_iff _).mp hused, hmissed, hrun⟩)]
      exact ⟨rfl, rfl⟩
    · rw [if_neg]
      rw [Lane.losesUse_iff]
      rintro ⟨hup, -, hrun⟩
      rcases hkept with h | h
      · exact absurd ((LaneState.used_iff _).mpr hup) (by simp [h])
      · omega
  · rw [hestimating]
    exact s.estimates_iff n
  · rw [hestimating]
    exact s.releaseSet_conditions n rest
  · show (s.recordOf n).status.getLsbD 11 = true ↔ _
    rw [State.recordOf, hhold]
    exact s.isHold_iff _
  · simp [State.releaseSet_eq, State.withRecord]
  · simp [State.releaseSet_eq, State.withRecord]
  · exact Link.with_urgent_eq (by simp [State.releaseSet_eq, State.withRecord])

end Sys2Proof.Machine

/-! # The arithmetic of a set and the capture unit (R38 to R51, R172 to R174) -/

namespace Sys2Proof.Machine

/-! ### Ranges (R41, R45, R47, R51) -/

theorem saturate_bounds (y : Int) : -524287 ≤ saturate y ∧ saturate y ≤ 524287 := by
  unfold saturate
  omega

theorem calibrateCurrent_bounds (e : CalEntry) (raw : Int) :
    -524287 ≤ calibrateCurrent e raw ∧ calibrateCurrent e raw ≤ 524287 := by
  obtain ⟨hlow, hhigh⟩ := saturate_bounds (roundShift 15 ((raw - e.iOfs) * e.iGain))
  unfold calibrateCurrent calibrate
  dsimp only
  split <;> omega

/-- Compensation lies between the present current and the one before it (R45). -/
theorem compensate_between {delay : Nat} (hdelay : delay ≤ 255) (history : Option Int) (now : Int) :
    min now (history.getD now) ≤ compensate delay history now ∧ compensate delay history now ≤ max now (history.getD now) := by
  unfold compensate roundShift
  generalize history.getD now = h
  have hnonneg : (0 : Int) ≤ delay := Int.natCast_nonneg _
  have htop : (delay : Int) ≤ 255 := by exact_mod_cast hdelay
  rcases Int.le_total now h with hle | hle
  · have hlow : 0 ≤ (delay : Int) * (h - now) := Int.mul_nonneg hnonneg (by omega)
    have hhigh : (delay : Int) * (h - now) ≤ 255 * (h - now) := Int.mul_le_mul_of_nonneg_right htop (by omega)
    constructor <;> omega
  · have hlow : 255 * (h - now) ≤ (delay : Int) * (h - now) := Int.mul_le_mul_of_nonpos_right htop (by omega)
    have hhigh : (delay : Int) * (h - now) ≤ 0 := Int.mul_nonpos_of_nonneg_of_nonpos hnonneg (by omega)
    constructor <;> omega

theorem compensate_bounds {delay : Nat} (hdelay : delay ≤ 255) {history : Option Int} {now : Int}
    (hhistory : ∀ h, history = some h → -524287 ≤ h ∧ h ≤ 524287) (hnow : -524287 ≤ now ∧ now ≤ 524287) :
    -524287 ≤ compensate delay history now ∧ compensate delay history now ≤ 524287 := by
  have hprevious : -524287 ≤ history.getD now ∧ history.getD now ≤ 524287 := by
    cases history with
    | none => exact hnow
    | some h => exact hhistory h rfl
  obtain ⟨hlow, hhigh⟩ := compensate_between hdelay history now
  omega

theorem mul_bounds {a b : Int} (ha : -524287 ≤ a ∧ a ≤ 524287) (hb : -524287 ≤ b ∧ b ≤ 524287) :
    -274876858369 ≤ a * b ∧ a * b ≤ 274876858369 := by
  have habs : |a * b| ≤ 524287 * 524287 := by
    rw [abs_mul]
    exact mul_le_mul (abs_le.mpr ha) (abs_le.mpr hb) (abs_nonneg _) (by norm_num)
  have hnumber : (524287 * 524287 : Int) = 274876858369 := by norm_num
  rw [hnumber] at habs
  exact abs_le.mp habs

/-! ### One phase of a completed set -/

theorem VoltageChannel.map_code (f : Int → Int) (v : VoltageChannel) : (v.map f).code = v.code.map f := by
  cases v <;> rfl

theorem VoltageChannel.code_eq_some_iff (v : VoltageChannel) (y : Int) : v.code = some y ↔ v = .present y ∨ v = .estimated y := by
  cases v <;> simp [code]

theorem VoltageChannel.code_eq_none_iff (v : VoltageChannel) : v.code = none ↔ v = .absent := by
  cases v <;> simp [code]

theorem completePhase_current (e : CalEntry) (history : Option Int) (p : SetPhase) :
    (completePhase e history p).current = p.current.map (fun raw => compensate e.delay history (calibrateCurrent e raw)) := rfl

theorem completePhase_voltage (e : CalEntry) (history : Option Int) (p : SetPhase) :
    (completePhase e history p).voltage = p.voltage.map (fun raw => calibrate raw e.vOfs e.vGain) := rfl

theorem completePhase_square (e : CalEntry) (history : Option Int) (p : SetPhase) :
    (completePhase e history p).square = (completePhase e history p).voltage.code.map (fun v => v * v) := rfl

theorem completePhase_power_eq_some_iff (e : CalEntry) (history : Option Int) (p : SetPhase) (w : Int) :
    (completePhase e history p).power = some w ↔ ∃ v a, (completePhase e history p).voltage.code = some v
      ∧ (completePhase e history p).current = some a ∧ w = v * a := by
  simp only [completePhase]
  cases (p.voltage.map fun raw => calibrate raw e.vOfs e.vGain).code <;>
    cases p.current.map (fun raw => compensate e.delay history (calibrateCurrent e raw)) <;> simp [@eq_comm _ w]

theorem completePhase_power_of_absent {e : CalEntry} {history : Option Int} {p : SetPhase}
    (h : (completePhase e history p).voltage = .absent ∨ (completePhase e history p).current = none) :
    (completePhase e history p).power = none := by
  rw [Option.eq_none_iff_forall_ne_some]
  intro w hw
  obtain ⟨v, a, hv, ha, -⟩ := (completePhase_power_eq_some_iff e history p w).mp hw
  rcases h with h | h
  · rw [h] at hv
    exact absurd hv (by simp [VoltageChannel.code])
  · rw [h] at ha
    exact absurd ha (by simp)

theorem completePhase_voltage_bounds {e : CalEntry} {history : Option Int} {p : SetPhase} {v : Int}
    (hv : (completePhase e history p).voltage.code = some v) : -524287 ≤ v ∧ v ≤ 524287 := by
  rw [completePhase_voltage, VoltageChannel.map_code] at hv
  obtain ⟨raw, -, rfl⟩ := Option.map_eq_some_iff.mp hv
  exact saturate_bounds _

theorem completePhase_current_bounds {e : CalEntry} {history : Option Int} {p : SetPhase} {a : Int} (hdelay : e.delay ≤ 255)
    (hhistory : ∀ h, history = some h → -524287 ≤ h ∧ h ≤ 524287) (ha : (completePhase e history p).current = some a) :
    -524287 ≤ a ∧ a ≤ 524287 := by
  rw [completePhase_current] at ha
  obtain ⟨raw, -, rfl⟩ := Option.map_eq_some_iff.mp ha
  exact compensate_bounds hdelay hhistory (calibrateCurrent_bounds e raw)

/-- Settles O24: saturation bounds the calibrated values, and a mean lies between its two ends. -/
theorem completedValuesStayInRange : Obligations.CompletedValuesStayInRange := by
  rintro e history p ⟨-, -, -, -, hdelay, -⟩ hhistory
  refine ⟨fun v hv => ?_, fun a ha => completePhase_current_bounds hdelay hhistory ha, fun w hw => ?_, fun q hq => ?_,
    fun raw now hraw hnow => ?_⟩
  · exact completePhase_voltage_bounds ((VoltageChannel.code_eq_some_iff _ v).mpr hv)
  · obtain ⟨v, a, hv, ha, rfl⟩ := (completePhase_power_eq_some_iff e history p w).mp hw
    exact mul_bounds (completePhase_voltage_bounds hv) (completePhase_current_bounds hdelay hhistory ha)
  · rw [completePhase_square] at hq
    obtain ⟨v, hv, rfl⟩ := Option.map_eq_some_iff.mp hq
    have hbounds := completePhase_voltage_bounds hv
    exact ⟨mul_self_nonneg v, (mul_bounds hbounds hbounds).2⟩
  · subst hnow
    obtain ⟨hlow, hhigh⟩ := calibrateCurrent_bounds e raw
    refine ⟨hlow, hhigh, fun a ha => ?_⟩
    rw [completePhase_current, hraw] at ha
    cases ha
    exact compensate_between hdelay history _

/-! ### Triggers (R172) -/

/-- An entry that matches a status word at every bit that it does not mask. -/
def TriggerEntry.Hits (e : TriggerEntry) (w : StatusWord) : Prop :=
  e.enabled = true ∧ ∀ k, k < 16 → e.mask.getLsbD k = false → w.getLsbD k = e.value.getLsbD k

theorem TriggerEntry.matches_iff (e : TriggerEntry) (w : StatusWord) : e.matches w = true ↔ e.Hits w := by
  have hword : ((w ^^^ e.value) &&& ~~~e.mask) = 0#16 ↔
      ∀ k, k < 16 → e.mask.getLsbD k = false → w.getLsbD k = e.value.getLsbD k := by
    constructor
    · intro hzero k hk hmask
      have hbit : ((w ^^^ e.value) &&& ~~~e.mask).getLsbD k = false := by rw [hzero, BitVec.getLsbD_zero]
      rw [BitVec.getLsbD_and, BitVec.getLsbD_xor, BitVec.getLsbD_not, hmask] at hbit
      simpa [hk, -BitVec.getLsbD_eq_getElem] using hbit
    · intro h
      apply BitVec.eq_of_getLsbD_eq
      intro k hk
      rw [BitVec.getLsbD_and, BitVec.getLsbD_xor, BitVec.getLsbD_not, BitVec.getLsbD_zero]
      cases hmask : e.mask.getLsbD k with
      | true => simp
      | false => simp [h k hk hmask, -BitVec.getLsbD_eq_getElem]
  simp only [TriggerEntry.matches, Bool.and_eq_true, decide_eq_true_eq, hword]
  rfl

theorem firstMatch_eq_none {w : StatusWord} {l : List TriggerEntry} (h : ∀ e ∈ l, ¬ e.Hits w) (i : Nat) :
    firstMatch w i l = none := by
  induction l generalizing i with
  | nil => rfl
  | cons e rest ih =>
    rw [firstMatch, if_neg (mt (e.matches_iff w).mp (h e List.mem_cons_self))]
    exact ih (fun d hd => h d (List.mem_cons_of_mem e hd)) (i + 1)

theorem firstMatch_eq_some {w : StatusWord} {l : List TriggerEntry} {k : Nat} {e : TriggerEntry} (he : l[k]? = some e)
    (hhit : e.Hits w) (hbefore : ∀ j < k, ∀ d, l[j]? = some d → ¬ d.Hits w) (i : Nat) : firstMatch w i l = some (i + k) := by
  induction l generalizing i k with
  | nil => exact absurd he (by simp)
  | cons d rest ih =>
    cases k with
    | zero =>
      cases he
      rw [firstMatch, if_pos ((e.matches_iff w).mpr hhit)]
      rfl
    | succ k =>
      rw [firstMatch, if_neg (mt (d.matches_iff w).mp (hbefore 0 (Nat.succ_pos k) d rfl)),
        ih he (fun j hj => hbefore (j + 1) (Nat.succ_lt_succ hj)) (i + 1), Nat.add_assoc, Nat.add_comm 1 k]

/-! ### A set at the capture unit (R172 to R174) -/

theorem State.captureSet_of_running {s : State} (h : s.capture.state = .running) (c : CompletedSet) :
    s.captureSet c = s.captureRunning c := by
  simp only [State.captureSet, h]

theorem Capture.count_withQueue (u : Capture) (q : List CaptureRecord) :
    ({ u with queue := q } : Capture).count = { u.count with queue := q } := by
  unfold count
  dsimp only
  split <;> rfl

theorem Capture.count_withOverrun (u : Capture) (n : Nat) :
    ({ u with overrun := n } : Capture).count = { u.count with overrun := n } := by
  unfold count
  dsimp only
  split <;> rfl

theorem State.raise_capture (s : State) (f : Flag) : (s.raise f).capture = s.capture := rfl

/-- Settles O25, by the unit's state and whether the set is forwarded. -/
theorem captureUnitTakesACompletedSet : Obligations.CaptureUnitTakesACompletedSet := by
  rintro s c record rfl hit
  refine ⟨fun hidle => by simp only [State.captureSet, hidle], fun harmed hnone => ?_, fun i e harmed he hhit hbefore => ?_,
    fun hrunning hsource => ?_, fun n hrunning hsource hcount => ?_, fun n hrunning hsource hcount => ?_⟩
  · simp only [State.captureSet, harmed, firstMatch_eq_none hnone]
  · have hfirst := firstMatch_eq_some he hhit hbefore 0
    rw [Nat.zero_add] at hfirst
    have hentry : Fin.ofNat 4 i.val = i := Fin.ext (Nat.mod_eq_of_lt i.isLt)
    simp only [State.captureSet, harmed, hfirst, hentry]
  · rw [State.captureSet_of_running hrunning, State.captureSet_of_running (by exact hrunning)]
    simp [State.captureRunning, hsource]
  · have hcounted : s.capture.count = { s.capture with
        current := if s.capture.mode = .stream then s.capture.current else s.capture.current - 1
        decimationCount := if s.capture.decimation = 1 then 0 else 1 } := by
      by_cases hmode : s.capture.mode = .stream <;> simp [Capture.count, hcount, hmode, @eq_comm _ 1]
    have htaken : s.captureRunning c = { s.forward c with capture := (s.forward c).capture.count } := by
      simp [State.captureRunning, hsource, hcount]
    rw [State.captureSet_of_running hrunning, htaken]
    refine ⟨fun hroom => ?_, fun hfull => ?_⟩
    · have hforward : s.forward c = { s with capture := { s.capture with queue := s.capture.queue ++ [captureRecordOf c] } } :=
        if_pos hroom
      rw [hforward, Capture.count_withQueue s.capture, hcounted]
      rfl
    · have hforward : s.forward c =
          ({ s with capture := { s.capture with overrun := min (s.capture.overrun + 1) 4294967295 } } : State).raise
            .captureOverrun := by
        have hdepth : ¬ s.capture.queue.length < Config.captureDepth := Nat.not_lt.mpr hfull
        rw [State.forward, if_neg hdepth, satInc_eq_min]
        rfl
      rw [hforward, State.raise_capture, Capture.count_withOverrun s.capture, hcounted]
      rfl
  · rw [State.captureSet_of_running hrunning]
    simp [State.captureRunning, hsource, hcount, Capture.count]

/-- Settles O26. -/
theorem captureTerminalCountEndsTheBlock : Obligations.CaptureTerminalCountEndsTheBlock := by
  intro s hreset
  have hexec : exec .captureTerminalCount s = .next s.takeCaptureTerminal := congrArg Host.Outcome.next (s.unlessReset_of hreset _)
  rw [hexec]
  refine ⟨fun hrunning hzero hmode => ?_, fun hrunning hzero hmode => ?_, fun hnot => ?_⟩
  · simp [State.takeCaptureTerminal, Capture.terminalDue, hrunning, hzero, hmode, Capture.terminal]
  · simp [State.takeCaptureTerminal, Capture.terminalDue, hrunning, hzero, hmode, Capture.terminal]
  · rw [State.takeCaptureTerminal, if_neg]
    rcases hnot with h | h | h <;> simp [Capture.terminalDue, h]

/-! ### The arithmetic step (R38 to R50) -/

/-- The CAL entry in use: unity while no table is active (R39). -/
theorem State.completeSet_phases_get (s : State) (r : SetRecord) (x : Phase) :
    (s.completeSet r).phases.get x = completePhase (s.calInUse.get x) (s.history.get x) (r.phases.get x) := by
  cases x <;> rfl

theorem State.historyAfter_get (s : State) (r : SetRecord) (x : Phase) :
    (s.historyAfter r).get x = (r.phases.get x).current.map (calibrateCurrent (s.calInUse.get x)) := by
  cases x <;> rfl

theorem CompletedPhase.isExporting_iff (p : CompletedPhase) : p.isExporting = true ↔ ∃ w, p.power = some w ∧ w < 0 := by
  unfold isExporting
  split
  next h => simp [h]
  next w h => simp [h]

theorem State.completeSet_status_getLsbD (s : State) (r : SetRecord) :
    (∀ x, (s.completeSet r).status.getLsbD (6 + phaseNumber x)
        = (r.status.getLsbD (6 + phaseNumber x) || ((s.completeSet r).phases.get x).isExporting))
      ∧ ∀ k, (k < 6 ∨ 8 < k) → (s.completeSet r).status.getLsbD k = r.status.getLsbD k := by
  simp only [State.completeSet, BitVec.getLsbD_or]
  refine ⟨fun x => ?_, fun k hk => ?_⟩
  · cases x <;> simp [statusBit_getLsbD, phaseNumber, PerPhase.get, -BitVec.getLsbD_eq_getElem]
  · rw [statusBit_getLsbD _ _ (by decide), statusBit_getLsbD _ _ (by decide), statusBit_getLsbD _ _ (by decide)]
    simp [show k ≠ 6 by omega, show k ≠ 7 by omega, show k ≠ 8 by omega, -BitVec.getLsbD_eq_getElem]

theorem calibrateCurrent_eq (e : CalEntry) (raw : Int) :
    calibrateCurrent e raw = (if e.polarity = 1 then -1 else 1)
      * max (-524287) (min 524287 (((raw - e.iOfs) * e.iGain + 16384) / 32768)) := by
  have hcalibrate : calibrate raw e.iOfs e.iGain = max (-524287) (min 524287 (((raw - e.iOfs) * e.iGain + 16384) / 32768)) := rfl
  rw [← hcalibrate, calibrateCurrent]
  split
  · exact (neg_one_mul _).symm
  · exact (one_mul _).symm

/-- Settles O23: the completed set is `State.completeSet`, and the histories are `State.historyAfter`. -/
theorem arithmeticStepCompletesTheSet : Obligations.ArithmeticStepCompletesTheSet := by
  intro s r rest cal hready hreleased hcal sat
  have hinuse : cal = s.calInUse := by
    rw [hcal, State.calInUse]
    cases s.tables.calActive <;> rfl
  clear hcal
  subst hinuse
  obtain ⟨hexporting, hkept⟩ := s.completeSet_status_getLsbD r
  refine ⟨s.completeSet r, s.historyAfter r, fun x => ?_, rfl, fun x => ?_, hkept, ?_⟩
  · rw [State.historyAfter_get]
    exact congrArg (fun f => Option.map f _) (funext (calibrateCurrent_eq _))
  · have hphase := s.completeSet_phases_get r x
    have hstatus := hexporting x
    dsimp only
    rw [hstatus, hphase, State.historyAfter_get]
    generalize s.calInUse.get x = e
    generalize s.history.get x = previous
    generalize r.phases.get x = p
    refine ⟨fun habsent => ?_, fun raw v hv => ⟨fun hpresent => ?_, fun hestimated => ?_⟩, fun hnone => ?_, fun now hnow => ?_,
      fun v a hv ha => ?_, completePhase_power_of_absent, ?_⟩
    · rw [completePhase_square, completePhase_voltage, habsent]
      exact ⟨rfl, rfl⟩
    · rw [completePhase_square, completePhase_voltage, hpresent, hv]
      exact ⟨rfl, rfl⟩
    · rw [completePhase_square, completePhase_voltage, hestimated, hv]
      exact ⟨rfl, rfl⟩
    · rw [completePhase_current, Option.map_eq_none_iff.mp hnone]
      rfl
    · obtain ⟨raw, hraw, rfl⟩ := Option.map_eq_some_iff.mp hnow
      rw [completePhase_current, hraw]
      rfl
    · exact (completePhase_power_eq_some_iff e previous p _).mpr ⟨v, a, (VoltageChannel.code_eq_some_iff _ v).mpr hv, ha, rfl⟩
    · rw [Bool.eq_iff_iff]
      simp [CompletedPhase.isExporting_iff]
  · refine congrArg Host.Outcome.next ((s.after_of_ready hready _).trans ?_)
    simp only [State.takeReleased, hreleased]
    rfl

end Sys2Proof.Machine

/-! # The calendar: the band in force, SET TIME, the minute rollover (R98 to R113) -/

namespace Sys2Proof.Machine

/-! ### The pruned list (R109) -/

/-- In an ascending list the past days stand in front. -/
theorem dropWhile_eq_filter {l : List SpecialDay} (horder : l.Pairwise (fun d e => d.day < e.day)) (day : Nat) :
    l.dropWhile (fun d => decide (d.day < day)) = l.filter (fun d => decide (day ≤ d.day)) := by
  induction l with
  | nil => rfl
  | cons d rest ih =>
    rw [List.pairwise_cons] at horder
    obtain ⟨hfirst, hrest⟩ := horder
    by_cases hpast : d.day < day
    · rw [List.dropWhile_cons_of_pos (by simp [hpast]), List.filter_cons_of_neg (by simp [hpast]), ih hrest]
    · rw [List.dropWhile_cons_of_neg (by simp [hpast]), List.filter_cons_of_pos (by simp; omega)]
      congr 1
      refine (List.filter_eq_self.mpr fun e he => ?_).symm
      have := hfirst e he
      simp
      omega

theorem Calendar.prune_eq {c : Calendar} (horder : c.specialDays.Pairwise (fun d e => d.day < e.day)) :
    c.prune = { c with specialDays := c.specialDays.filter (fun d => decide (c.day ≤ d.day)) } := by
  rw [Calendar.prune, dropWhile_eq_filter horder]

/-! ### The band at a minute (R111) -/

theorem finOfNat_val {n : Nat} (h : n ≤ 7) : (Fin.ofNat 8 n).val = n := Nat.mod_eq_of_lt (by omega)

/-- The last used point that has begun gives the band. -/
theorem bandAt_of_begun {used : List SwitchPoint} {minute : Nat} {p : SwitchPoint}
    (horder : used.Pairwise (fun p q => p.minute < q.minute)) (hp : p ∈ used) (hbegun : p.minute ≤ minute)
    (hlast : ∀ q ∈ used, q.minute ≤ minute → q.minute ≤ p.minute) : bandAt used minute = Fin.ofNat 8 p.band := by
  have hmem : p ∈ used.filter (fun p => decide (p.minute ≤ minute)) := List.mem_filter.mpr ⟨hp, by simp [hbegun]⟩
  have hpairs := horder.filter (fun p => decide (p.minute ≤ minute))
  have hsome : (used.filter (fun p => decide (p.minute ≤ minute))).getLast? = some p := by
    generalize hfilter : used.filter (fun p => decide (p.minute ≤ minute)) = begun at hmem hpairs
    obtain ⟨front, last, rfl⟩ := List.eq_nil_or_concat begun |>.resolve_left (List.ne_nil_of_mem hmem)
    rw [List.concat_eq_append] at *
    have hend : last ∈ used ∧ last.minute ≤ minute := by
      have : last ∈ used.filter (fun p => decide (p.minute ≤ minute)) := by simp [hfilter]
      simpa [List.mem_filter] using this
    rw [List.getLast?_append]
    rcases List.mem_append.mp hmem with hfront | hlastMem
    · have hlater := (List.pairwise_append.mp hpairs).2.2 p hfront last (by simp)
      have := hlast last hend.1 hend.2
      omega
    · rw [List.mem_singleton.mp hlastMem]
      rfl
  simp only [bandAt, hsome]

/-- Before the first point of the day the last one of the list gives the band. -/
theorem bandAt_of_before {used : List SwitchPoint} {minute : Nat} {p : SwitchPoint} (hbefore : ∀ q ∈ used, minute < q.minute)
    (hp : used.getLast? = some p) : bandAt used minute = Fin.ofNat 8 p.band := by
  have hnone : used.filter (fun p => decide (p.minute ≤ minute)) = [] :=
    List.filter_eq_nil_iff.mpr fun q hq => by simpa using hbefore q hq
  simp only [bandAt, hnone, List.getLast?_nil, hp]

/-! ### What an evaluation finds (R104, R110) -/

theorem Calendar.todaysProfile_special {c : Calendar} {t : CalendarTable} {e : SpecialDay} (he : e ∈ c.specialDays)
    (hday : e.day = c.day) (honly : ∀ d ∈ c.specialDays, d.day = c.day → d = e) : c.todaysProfile t = e.profile := by
  have hfind : c.specialDays.find? (fun d => d.day == c.day) = some e := by
    cases hfound : c.specialDays.find? (fun d => d.day == c.day) with
    | none => exact absurd hday (by simpa using List.find?_eq_none.mp hfound e he)
    | some d => rw [honly d (List.mem_of_find?_eq_some hfound) (by simpa using List.find?_some hfound)]
  simp [Calendar.todaysProfile, specialProfile, hfind]

theorem Calendar.todaysProfile_week {c : Calendar} {t : CalendarTable} {profile : Nat}
    (hnone : ∀ e ∈ c.specialDays, e.day ≠ c.day) (hweek : t.week[(c.day + t.offset) % 7]? = some profile) :
    c.todaysProfile t = profile := by
  have hfind : c.specialDays.find? (fun d => d.day == c.day) = none :=
    List.find?_eq_none.mpr fun e he => by simpa using hnone e he
  simp [Calendar.todaysProfile, specialProfile, hfind, weekdayOf, List.getD_eq_getElem?_getD, hweek]

theorem State.bandNow_of_failsafe {s : State} {m : Meter} (hm : s.tables.meterActive = some m)
    (hfailsafe : s.engine.state = .failsafe) (hband : m.failsafeBand ≠ 8) :
    s.bandNow = (Fin.ofNat 8 m.failsafeBand, .failsafe) := by
  simp only [State.bandNow, hm]
  rw [if_pos ⟨hfailsafe, hband⟩]

/-- The clock decides where FAILSAFE does not (R110). -/
theorem State.bandNow_of_clock {s : State}
    (hfree : s.tables.meterActive = none ∨ s.engine.state ≠ .failsafe
      ∨ ∃ m : Meter, s.tables.meterActive = some m ∧ m.failsafeBand = 8) (hset : s.calendar.clockSet = true) :
    s.bandNow = match s.tables.calendarActive with
      | none => (0, .noTable)
      | some t => (bandAt (t.usedPoints (s.calendar.todaysProfile t)) s.calendar.minute, .profile) := by
  simp only [State.bandNow, hset, if_true]
  cases hm : s.tables.meterActive with
  | none => rfl
  | some m =>
    refine if_neg ?_
    rintro ⟨hfailsafe, hband⟩
    rcases hfree with h | h | ⟨_, h, h8⟩
    · exact absurd (hm.symm.trans h) (by simp)
    · exact h hfailsafe
    · cases hm.symm.trans h
      exact hband h8

theorem State.bandNow_of_unset {s : State} {m : Meter} (hm : s.tables.meterActive = some m)
    (hfree : s.engine.state ≠ .failsafe ∨ m.failsafeBand = 8) (hunset : s.calendar.clockSet = false) :
    s.bandNow = (Fin.ofNat 8 m.unsetBand, .unset) := by
  simp only [State.bandNow, hm, hunset, Bool.false_eq_true, if_false]
  refine if_neg ?_
  rintro ⟨hfailsafe, hband⟩
  rcases hfree with h | h
  · exact h hfailsafe
  · exact hband h

/-- Settles O40: an evaluation installs `State.bandNow`, read off by its cases. -/
theorem evaluationFindsTheBandInForce : Obligations.EvaluationFindsTheBandInForce := by
  intro s b source hnow free
  have hclock (hfree : free) (hset : s.calendar.clockSet = true) :=
    State.bandNow_of_clock (s := s) (Or.inr hfree) hset
  refine ⟨⟨fun hsame => ?_, fun hchanged => ?_⟩, fun m hm hfailsafe hband => ?_, fun m hm hfree hunset hband => ?_,
    fun hm hunset => ?_, fun hfree hset htable => ?_, fun t profile used hfree hset htable hprofile hused hbands horder => ?_⟩
  · simp [State.evaluate, hnow, hsame, State.withBandNow]
  · rw [State.evaluate, if_neg (by rw [hnow]; exact hchanged)]
    simp only [State.withBandNow, hnow, State.windowsRun]
    by_cases hconfig : s.engine.state = .config <;> simp [hconfig]
  · rw [State.bandNow_of_failsafe hm hfailsafe (by omega)] at hnow
    cases hnow
    exact ⟨finOfNat_val (by omega), rfl⟩
  · rw [State.bandNow_of_unset hm hfree hunset] at hnow
    cases hnow
    exact ⟨finOfNat_val hband, rfl⟩
  · simp only [State.bandNow, hm, hunset, Bool.false_eq_true, if_false] at hnow
    cases hnow
    exact ⟨rfl, rfl⟩
  · rw [hclock hfree hset, htable] at hnow
    cases hnow
    exact ⟨rfl, rfl⟩
  · have htoday : s.calendar.todaysProfile t = profile := by
      rcases hprofile with ⟨e, he, hday, rfl, honly⟩ | ⟨hnone, hweek⟩
      · exact Calendar.todaysProfile_special he hday honly
      · exact Calendar.todaysProfile_week hnone hweek
    have hpoints : t.usedPoints profile = used := hused.symm
    rw [hclock hfree hset, htable] at hnow
    simp only [htoday, hpoints] at hnow
    cases hnow
    refine ⟨rfl, fun hempty => ?_, fun p hp hbegun hlast => ?_, fun hbefore p hp => ?_⟩
    · subst hempty
      rfl
    · rw [bandAt_of_begun horder hp hbegun hlast]
      exact finOfNat_val (hbands p hp)
    · rw [bandAt_of_before hbefore hp]
      exact finOfNat_val (hbands p (List.mem_of_getLast? hp))

/-! ### SET TIME (R101) -/

/-- The state with other notices on their way to the demand unit. -/
def State.withNotices (s : State) (l : List Nat) : State := { s with timeNotices := l }

theorem State.evaluate_withNotices (s : State) (l : List Nat) :
    (s.withNotices l).evaluate = s.evaluate.withNotices l := by
  have hband : (s.withNotices l).bandNow = s.bandNow := rfl
  have hcalendar : (s.withNotices l).calendar = s.calendar := rfl
  by_cases hsame : s.bandNow.1 = s.calendar.band
  · simp only [State.evaluate, hband, hcalendar, hsame, if_true]
    rfl
  · simp only [State.evaluate, hband, hcalendar, hsame, if_false]
    rfl

/-- The state in which SET TIME evaluates the band in force. -/
def State.timeLoaded (s : State) (day minute strobes : Nat) : State :=
  { s with
    calendar := s.calendar.load day minute strobes, monitor := s.monitor.setCondition .clockNotSet false
    requests := if s.windowsRun then s.requests ++ [ForcedCause.time] else s.requests }

theorem State.loadTime_eq_evaluate (s : State) (day minute strobes : Nat) :
    s.loadTime day minute strobes =
      ((s.timeLoaded day minute strobes).withNotices (s.timeNotices ++ [minute])).evaluate := by
  have hnotices : (s.timeLoaded day minute strobes).evaluate.timeNotices = s.timeNotices := by
    simp [State.timeLoaded]
  rw [State.evaluate_withNotices, ← hnotices]
  simp only [State.loadTime, State.report_false]
  rfl

/-- The state of an accepted SET TIME. -/
theorem State.loadTime_eq {s : State} (horder : s.calendar.specialDays.Pairwise (fun d e => d.day < e.day))
    (day minute strobes : Nat) :
    s.loadTime day minute strobes = (({ s with
      calendar := { s.calendar with
        day := day, minute := minute, strobeCount := strobes, clockSet := true
        specialDays := s.calendar.specialDays.filter (fun d => decide (day ≤ d.day)) }
      requests := if s.engine.state = .config then s.requests else s.requests ++ [.time]
      timeNotices := s.timeNotices ++ [minute] } : State).report .clockNotSet false).evaluate := by
  have hload : s.calendar.load day minute strobes = { s.calendar with
      day := day, minute := minute, strobeCount := strobes, clockSet := true
      specialDays := s.calendar.specialDays.filter (fun d => decide (day ≤ d.day)) } := Calendar.prune_eq horder
  rw [State.loadTime_eq_evaluate, State.report_false]
  simp only [State.timeLoaded, State.withNotices, hload, State.windowsRun]
  by_cases hconfig : s.engine.state = .config <;> simp [hconfig]

theorem State.loadTime_withCommands (s : State) (rest : List (List Byte)) (day minute strobes : Nat) :
    (s.withCommands rest).loadTime day minute strobes = (s.loadTime day minute strobes).withCommands rest := by
  rw [State.loadTime_eq_evaluate, State.loadTime_eq_evaluate, ← State.evaluate_withCommands]
  rfl

/-- Settles O41. -/
theorem setTimeLoadsTheClock : Obligations.SetTimeLoadsTheClock := by
  rintro s rest p day minute strobes h hlength horder rfl rfl rfl
  refine ⟨fun hhigh => ?_, fun hlow => ?_⟩
  · exact congrArg Host.Outcome.next (s.execute_of_refused h hlength (if_pos hhigh))
  · rw [← State.loadTime_eq horder]
    refine congrArg Host.Outcome.next (s.execute_of_reply _ h (by simp [lengthIs, hlength]) ?_)
    rw [setTime, if_neg (Nat.not_lt.mpr hlow), State.loadTime_withCommands, Nat.min_comm]

/-! ### The minute rollover (R98, R99, R118) -/

theorem Calendar.advance_eq {c : Calendar} (horder : c.specialDays.Pairwise (fun d e => d.day < e.day)) :
    c.advance = if c.minute = 1439 then
        { c with
          strobeCount := 0, minute := 0, day := if c.day < 65535 then c.day + 1 else 65535
          specialDays := if c.clockSet then c.specialDays.filter
            (fun d => decide ((if c.day < 65535 then c.day + 1 else 65535) ≤ d.day)) else c.specialDays }
      else { c with strobeCount := 0, minute := c.minute + 1 } := by
  have hday : satInc top16 c.day = if c.day < 65535 then c.day + 1 else 65535 := by
    rw [satInc_eq_min, top16]
    split <;> omega
  unfold Calendar.advance
  split
  · simp only [hday]
    cases hset : c.clockSet with
    | true => exact Calendar.prune_eq horder
    | false => simp
  · rfl

/-- Settles O42: the rollover evaluates the advanced clock and hands the minute to the demand unit. -/
theorem minuteRolloverAdvancesTheClock : Obligations.MinuteRolloverAdvancesTheClock := by
  rintro s u c hreset rfl
  have hexec : exec .minuteRollover s = .next s.takeRollover := congrArg Host.Outcome.next (s.unlessReset_of hreset _)
  refine ⟨fun hearly => ?_, fun hdue horder hc => ?_⟩
  · have hnot : ¬ s.calendar.rolloverDue = true := mt of_decide_eq_true (Nat.not_le.mpr hearly)
    rw [hexec, State.takeRollover, if_neg hnot]
  have hadvance : s.calendar.advance = c := (Calendar.advance_eq horder).trans hc.symm
  have hclock : c.clockSet = s.calendar.clockSet := by
    rw [hc]
    split <;> rfl
  have hrollover : exec .minuteRollover s = .next (({ s with calendar := c } : State).evaluate).minuteToDemand := by
    have hnow : s.calendar.rolloverDue = true := decide_eq_true hdue
    rw [hexec, State.takeRollover, if_pos hnow, State.rollover, hadvance]
  generalize hu : ({ s with calendar := c } : State).evaluate = u at hrollover
  have hframe : u.tables = s.tables ∧ u.calendar.clockSet = s.calendar.clockSet ∧ u.calendar.minute = c.minute
      ∧ u.calendar.day = c.day ∧ u.demand = s.demand := by
    rw [← hu]
    simp [hclock]
  obtain ⟨htables, hset, hminute, hday, hdemand⟩ := hframe
  have hmode : u.demandMode = s.demandMode ∧ u.demandMinutes = s.demandMinutes := by
    simp [State.demandMode, State.demandMinutes, htables]
  rw [hrollover]
  refine ⟨fun hends => ?_, fun hnot => ?_⟩
  · obtain ⟨haligned, hclockSet, hdivides, hrunning⟩ := hends
    rw [State.minuteToDemand, hmode.1, hmode.2, hset, hminute, if_pos ⟨haligned, hclockSet, hdivides⟩, State.endInterval,
      hdemand, if_pos hrunning, hminute, hday]
  · rw [State.minuteToDemand, hmode.1, hmode.2, hset, hminute]
    split
    case isFalse => rfl
    case isTrue hends =>
      rw [State.endInterval, hdemand, if_neg]
      exact fun hrunning => hnot ⟨hends.1, hends.2.1, hends.2.2, hrunning⟩

end Sys2Proof.Machine

/-! # Demand intervals, START and the watchdog's expiry (R56, R112, R117 to R122, R151) -/

namespace Sys2Proof.Machine

/-! ### The beginning of an interval (R117) -/

theorem State.counterMode_of_free {s : State} (h : s.demandMode = .free) : s.counterMode = true := by
  simp only [State.counterMode, h]

theorem State.counterMode_of_oneShot {s : State} (h : s.demandMode = .oneShot) : s.counterMode = true := by
  simp only [State.counterMode, h]

theorem State.counterMode_of_aligned {s : State} (h : s.demandMode = .aligned) : s.counterMode = !s.calendar.clockSet := by
  simp only [State.counterMode, h]

/-- An interval that the counter ends begins with the count as it was reloaded at its terminal count. -/
theorem State.beginInterval_kept {s : State} (h : s.counterMode = true) (partialMark : Bool) :
    s.beginInterval partialMark false = { s with demand := { s.demand with
      state := .running, partialMark := partialMark, sums := ⟨0, 0⟩, stampDay := 0, stampMinute := 0
      base := s.demandMinutes * 240000 } } := by
  simp [State.beginInterval, h, Config.strobesPerMinute]

/-- An interval that the clock ends has no count. -/
theorem State.beginInterval_uncounted {s : State} (h : s.counterMode = false) (partialMark reload : Bool) :
    s.beginInterval partialMark reload = { s with demand := { s.demand with
      state := .running, partialMark := partialMark, sums := ⟨0, 0⟩, stampDay := 0, stampMinute := 0
      base := 0, current := 0, terminal := false } } := by
  simp [State.beginInterval, h]

/-- An interval that loads the count from its base. -/
theorem State.beginInterval_loaded (s : State) (partialMark : Bool) :
    s.beginInterval partialMark true = { s with demand := { s.demand with
      state := .running, partialMark := partialMark, sums := ⟨0, 0⟩, stampDay := 0, stampMinute := 0
      base := if s.counterMode then s.demandMinutes * 240000 else 0
      current := if s.counterMode then s.demandMinutes * 240000 else 0, terminal := false } } := by
  simp [State.beginInterval, Config.strobesPerMinute]

/-! ### Credits (R121) -/

theorem DemandRecord.update_eq (r : DemandRecord) (sum day minute : Nat) :
    r.update sum day minute = if r.value < min sum 4294967295 then ⟨min sum 4294967295, day, minute⟩ else r := rfl

theorem exec_demandCredit {s : State} (h : s.Ready) {c : Credit} {rest : List Credit} (hcredits : s.credits = c :: rest) :
    exec .demandCredit s = .next (({ s with credits := rest } : State).acceptCredit c) := by
  refine congrArg Host.Outcome.next ((s.after_of_ready h _).trans ?_)
  rw [State.takeCredit, hcredits]

section CloseInterval

variable {s : State} (b : Band)

theorem State.closeInterval_free (hmode : s.demandMode = .free) :
    s.closeInterval b = { s with demand := { s.demand.compare b with
      state := .running, partialMark := false, sums := ⟨0, 0⟩, stampDay := 0, stampMinute := 0
      base := s.demandMinutes * 240000 } } := by
  have hmode' : ({ s with demand := s.demand.compare b } : State).demandMode = .free := hmode
  simp only [State.closeInterval, hmode']
  exact State.beginInterval_kept (State.counterMode_of_free hmode') false

theorem State.closeInterval_aligned_set (hmode : s.demandMode = .aligned) (hset : s.calendar.clockSet = true) :
    s.closeInterval b = { s with demand := { s.demand.compare b with
      state := .running, partialMark := false, sums := ⟨0, 0⟩, stampDay := 0, stampMinute := 0
      base := 0, current := 0, terminal := false } } := by
  have hmode' : ({ s with demand := s.demand.compare b } : State).demandMode = .aligned := hmode
  have hcounter : ({ s with demand := s.demand.compare b } : State).counterMode = false := by
    rw [State.counterMode_of_aligned hmode', hset]
    rfl
  simp only [State.closeInterval, hmode', hset]
  exact State.beginInterval_uncounted hcounter false false

theorem State.closeInterval_aligned_unset (hmode : s.demandMode = .aligned) (hset : s.calendar.clockSet = false) :
    s.closeInterval b = { s with demand := { s.demand.compare b with
      state := .running, partialMark := true, sums := ⟨0, 0⟩, stampDay := 0, stampMinute := 0
      base := s.demandMinutes * 240000 } } := by
  have hmode' : ({ s with demand := s.demand.compare b } : State).demandMode = .aligned := hmode
  have hcounter : ({ s with demand := s.demand.compare b } : State).counterMode = true := by
    rw [State.counterMode_of_aligned hmode', hset]
    rfl
  simp only [State.closeInterval, hmode', hset]
  exact State.beginInterval_kept hcounter true

theorem Demand.compare_restartPending (d : Demand) : (d.compare b).restartPending = d.restartPending := by
  unfold compare
  split <;> rfl

theorem State.closeInterval_oneShot_done (hmode : s.demandMode = .oneShot) (hrestart : s.demand.restartPending = false) :
    s.closeInterval b =
      ({ s with demand := { s.demand.compare b with state := .done, sums := ⟨0, 0⟩ } } : State).raise .demandDone := by
  have hmode' : ({ s with demand := s.demand.compare b } : State).demandMode = .oneShot := hmode
  simp only [State.closeInterval, hmode', Demand.compare_restartPending, hrestart, Bool.false_eq_true, if_false]

theorem State.closeInterval_oneShot_restarts (hmode : s.demandMode = .oneShot) (hrestart : s.demand.restartPending = true) :
    s.closeInterval b = { s with demand := { s.demand.compare b with
      state := .running, partialMark := false, sums := ⟨0, 0⟩, stampDay := 0, stampMinute := 0, restartPending := false
      base := s.demandMinutes * 240000, current := s.demandMinutes * 240000, terminal := false } } := by
  have hmode' : ({ s with demand := s.demand.compare b } : State).demandMode = .oneShot := hmode
  have hcounter : ({ s with demand := { s.demand.compare b with restartPending := false } } : State).counterMode = true :=
    State.counterMode_of_oneShot hmode
  simp only [State.closeInterval, hmode', Demand.compare_restartPending, hrestart, if_true]
  rw [State.beginInterval_loaded, hcounter]
  rfl

end CloseInterval

/-- Settles O44, by the interval state, the mark of the credit and the mode. -/
theorem demandCreditByIntervalState : Obligations.DemandCreditByIntervalState := by
  rintro s taken c rest summed compared hready hcredits rfl hsummed hcompared
  have hsummed : s.demand.add c = summed := hsummed.symm
  have hcompare : summed.compare c.band = compared := by
    subst hsummed
    rw [hcompared]
    rfl
  rw [exec_demandCredit hready hcredits]
  have hclosed (hending : s.demand.state = .ending) (hmarked : c.intervalEnd = true) :
      ({ s with credits := rest } : State).acceptCredit c =
        ({ s with credits := rest, demand := summed } : State).closeInterval c.band := by
    simp only [State.acceptCredit, hending, hmarked, if_true, hsummed]
  clear hcompared
  refine ⟨fun hstate => ?_, fun hstate => ?_, fun hending hmarked hmode => ?_, fun hending hmarked hmode hset => ?_,
    fun hending hmarked hmode hset => ?_, fun hending hmarked hmode hrestart => ?_, fun hending hmarked hmode hrestart => ?_⟩
  · rcases hstate with h | h <;> simp only [State.acceptCredit, h]
  · rcases hstate with h | ⟨h, hunmarked⟩
    · simp only [State.acceptCredit, h, hsummed]
    · simp only [State.acceptCredit, h, hunmarked, hsummed, Bool.false_eq_true, if_false]
  · rw [hclosed hending hmarked, ← hcompare, State.closeInterval_free c.band (by exact hmode)]
    rfl
  · rw [hclosed hending hmarked, ← hcompare, State.closeInterval_aligned_set c.band (by exact hmode) (by exact hset)]
  · rw [hclosed hending hmarked, ← hcompare, State.closeInterval_aligned_unset c.band (by exact hmode) (by exact hset)]
    rfl
  · rw [hclosed hending hmarked, ← hcompare, State.closeInterval_oneShot_done c.band (by exact hmode)]
    rw [← hsummed]
    exact hrestart
  · rw [hclosed hending hmarked, ← hcompare, State.closeInterval_oneShot_restarts c.band (by exact hmode)]
    · rfl
    · rw [← hsummed]
      exact hrestart

/-! ### Terminal count and SET TIME notice (R119, R120, R122) -/

/-- Settles O45. -/
theorem terminalCountEndsTheInterval : Obligations.TerminalCountEndsTheInterval := by
  rintro s counter hreset rfl
  have hexec : exec .terminalCount s = .next s.takeTerminal := congrArg Host.Outcome.next (s.unlessReset_of hreset _)
  have htaken (hdue : s.demand.terminal = true) : exec .terminalCount s = .next ({ s with demand := { s.demand with
      terminal := false, current := if s.demandMode = .oneShot then 0 else s.demand.base } } : State).endInterval := by
    rw [hexec, State.takeTerminal, if_pos hdue]
    by_cases hmode : s.demandMode = .oneShot <;> simp [State.takeTerminalCount, hmode]
  refine ⟨fun hnot => ?_, fun hdue hrunning => ?_, fun hdue hrunning => ?_⟩
  · rw [hexec, State.takeTerminal, if_neg (by simp [hnot])]
  · rw [htaken hdue]
    exact congrArg Host.Outcome.next (if_pos hrunning)
  · rw [htaken hdue]
    exact congrArg Host.Outcome.next (if_neg hrunning)

/-- Settles O46. -/
theorem setTimeNoticeAbandonsAnAlignedInterval : Obligations.SetTimeNoticeAbandonsAnAlignedInterval := by
  rintro s taken minute base rest hready rfl rfl
  have hexec : exec .setTimeNotice s = .next s.takeNotice := congrArg Host.Outcome.next (s.after_of_ready hready _)
  refine ⟨fun hnone => ?_, fun hnotices hmode hengine hstate => ?_, fun hnotices hnot => ?_⟩
  · rw [hexec, State.takeNotice, hnone]
  · have hmode' : ({ s with timeNotices := rest } : State).demandMode = .aligned := hmode
    have hwindows : ({ s with timeNotices := rest } : State).windowsRun = true := decide_eq_true hengine
    rw [hexec, State.takeNotice, hnotices]
    simp only
    rw [if_pos ⟨hmode', hwindows, hstate⟩, State.beginInterval_loaded, State.counterMode_of_aligned hmode']
    cases hset : s.calendar.clockSet <;> rfl
  · rw [hexec, State.takeNotice, hnotices]
    refine congrArg Host.Outcome.next (if_neg ?_)
    rintro ⟨hmode, hwindows, hstate⟩
    rcases hnot with h | h | h | h
    · exact h hmode
    · exact of_decide_eq_true hwindows h
    · rcases hstate with hstate | hstate <;> exact absurd (h.symm.trans hstate) (by decide)
    · rcases hstate with hstate | hstate <;> exact absurd (h.symm.trans hstate) (by decide)

/-! ### START (R54) -/

theorem demandModeOf_eq_off_iff {n : Nat} (h : n ≤ 3) : demandModeOf n = .off ↔ n = 3 := by
  match n with
  | 0 | 1 | 2 | 3 => simp [demandModeOf]
  | n + 4 => omega

/-- The counter ends the intervals of FREE, of ONE_SHOT, and of ALIGNED while the clock is not set (R119). -/
theorem State.counterMode_iff {s : State} {m : Meter} (hm : s.tables.meterActive = some m) :
    s.counterMode = true ↔ m.demandMode = 1 ∨ m.demandMode = 2 ∨ (m.demandMode = 0 ∧ s.calendar.clockSet = false) := by
  simp only [State.counterMode, State.demandMode, hm]
  match m.demandMode with
  | 0 | 1 | 2 | n + 3 => simp [demandModeOf]

/-- The state of START before the band is evaluated. -/
def State.meteringBegun (s : State) : State :=
  let started : State := { s with
    engine := { s.engine with state := .metering, window := some s.emptyWindow, lastCreditedBand := none }
    credits := [], timeNotices := []
    monitor := { s.monitor with watchdogRunning := decide (s.watchdogSeconds ≠ 0), watchdogCount := 0, expired := false } }
  if s.demandMode = .off then started else started.beginInterval true true

theorem State.startMetering_eq (s : State) : s.startMetering = s.meteringBegun.evaluate := rfl

theorem State.startMetering_withCommands (s : State) (rest : List (List Byte)) :
    (s.withCommands rest).startMetering = s.startMetering.withCommands rest := by
  have hbegun : (s.withCommands rest).meteringBegun = s.meteringBegun.withCommands rest := by
    have hmode : (s.withCommands rest).demandMode = s.demandMode := rfl
    unfold State.meteringBegun
    rw [hmode]
    by_cases hoff : s.demandMode = .off
    · rw [if_pos hoff, if_pos hoff]
      rfl
    · rw [if_neg hoff, if_neg hoff]
      rfl
  rw [State.startMetering_eq, hbegun, State.evaluate_withCommands, State.startMetering_eq]

theorem State.meteringBegun_of_meter {s : State} {m : Meter} (hm : s.tables.meterActive = some m) (hmode : m.demandMode ≤ 3)
    {base : Nat} (hbase : base = if m.demandMode = 1 ∨ m.demandMode = 2 ∨ (m.demandMode = 0 ∧ s.calendar.clockSet = false)
      then m.di * 240000 else 0) :
    s.meteringBegun = { s with
      credits := []
      timeNotices := []
      engine := { s.engine with
        state := .metering
        window := some { count := 0, band := s.calendar.band, opening := none, sums := .all sumsZero }
        lastCreditedBand := none }
      monitor := { s.monitor with watchdogRunning := decide (m.watchdog ≠ 0), watchdogCount := 0, expired := false }
      demand := if m.demandMode = 3 then s.demand else
        { s.demand with
          state := .running, partialMark := true, sums := ⟨0, 0⟩, stampDay := 0, stampMinute := 0, base := base
          current := base, terminal := false } } := by
  have hseconds : s.watchdogSeconds = m.watchdog := by simp [State.watchdogSeconds, hm]
  have hoff : s.demandMode = .off ↔ m.demandMode = 3 := by
    simp only [State.demandMode, hm]
    exact demandModeOf_eq_off_iff hmode
  have hminutes : s.demandMinutes = m.di := by simp [State.demandMinutes, hm]
  have hcounted : (if s.counterMode then s.demandMinutes * 240000 else 0) = base := by
    rw [hbase, hminutes]
    exact if_congr (State.counterMode_iff hm) rfl rfl
  unfold State.meteringBegun
  dsimp only
  by_cases h3 : m.demandMode = 3
  · rw [if_pos (hoff.mpr h3), if_pos h3, hseconds]
    rfl
  · rw [if_neg (mt hoff.mp h3), if_neg h3, State.beginInterval_loaded, hseconds, ← hcounted]
    rfl

/-- Settles O32. -/
theorem startBeginsMetering : Obligations.StartBeginsMetering := by
  intro s rest m base h hbase
  refine ⟨fun hconfig hcal hm hmode => ?_, fun hrunning => ?_, fun hconfig hmissing => ?_⟩
  · rw [← State.meteringBegun_of_meter hm hmode hbase]
    refine congrArg Host.Outcome.next (s.execute_of_reply s.startMetering h rfl ?_)
    have hrefused : ¬ (s.withCommands rest).engine.state ≠ .config := not_not_intro hconfig
    have hready : ¬ ((s.withCommands rest).tables.calActive = none ∨ (s.withCommands rest).tables.meterActive = none) := by
      rintro (hnone | hnone)
      · exact absurd hcal (by rw [show s.tables.calActive = none from hnone]; simp)
      · exact absurd (hm.symm.trans hnone) (by simp)
    rw [start, if_neg hrefused, if_neg hready, State.startMetering_withCommands]
    rfl
  · exact congrArg Host.Outcome.next (s.execute_of_refused h rfl (if_pos hrunning))
  · refine congrArg Host.Outcome.next (s.execute_of_refused h rfl ?_)
    have hrefused : ¬ (s.withCommands rest).engine.state ≠ .config := not_not_intro hconfig
    rw [start, if_neg hrefused]
    exact if_pos hmissing

/-! ### The watchdog's expiry (R151) -/

/-- Settles O53. -/
theorem watchdogExpiryEntersFailsafe : Obligations.WatchdogExpiryEntersFailsafe := by
  rintro s u v hready hlaw rfl rfl
  have hexec : exec .watchdogExpiry s = .next s.takeExpiry := congrArg Host.Outcome.next (s.after_of_ready hready _)
  refine ⟨fun hnot => ?_, fun hrunning hexpired hmetering => ?_⟩
  · rw [hexec, State.takeExpiry, if_neg]
    rcases hnot with h | h <;> simp [State.expiryDue, h]
  · have hdue : s.expiryDue = true := by simp [State.expiryDue, hrunning, hexpired]
    rw [hexec, State.takeExpiry, if_pos hdue, State.enterFailsafe]
    have hlive : ({ s with monitor := s.monitor.stopWatchdog } : State).monitor.conditions =
        ({ s with monitor := s.monitor.stopWatchdog } : State).liveConditions := hlaw.1
    have hreport := State.reportEngine_of_engineState { s with monitor := s.monitor.stopWatchdog } .failsafe hlive
    dsimp only at hreport ⊢
    rw [if_pos hmetering, hreport]
    cases hrequest : s.tables.anyRequest <;> simp [State.raiseIf, hrequest] <;> rfl

end Sys2Proof.Machine

/-! # Netting, the check of EXPORT, and processing a set (R60 to R71, R75) -/

namespace Sys2Proof.Machine

/-! ### Netting (R68 to R71) -/

theorem netSigned_eq (creep : Nat) (e : Int) :
    ((netSigned creep e).aImp : Int) = (if e.natAbs < creep then 0 else max e 0)
      ∧ ((netSigned creep e).aExp : Int) = (if e.natAbs < creep then 0 else max (-e) 0)
      ∧ (netSigned creep e).discard = (if e.natAbs < creep then e else 0) := by
  unfold netSigned
  by_cases hcreep : e.natAbs < creep
  · simp [hcreep]
  · by_cases hpos : 0 < e
    · rw [if_neg hcreep, if_pos hpos, if_neg hcreep, if_neg hcreep, if_neg hcreep]
      refine ⟨?_, ?_, rfl⟩
      · show ((e.natAbs : Nat) : Int) = _
        omega
      · show ((0 : Nat) : Int) = _
        omega
    · rw [if_neg hcreep, if_neg hpos, if_neg hcreep, if_neg hcreep, if_neg hcreep]
      refine ⟨?_, ?_, rfl⟩
      · show ((0 : Nat) : Int) = _
        omega
      · show ((e.natAbs : Nat) : Int) = _
        omega

theorem netSigned_balance (creep : Nat) (e : Int) :
    ((netSigned creep e).aImp : Int) - (netSigned creep e).aExp + (netSigned creep e).discard = e := by
  obtain ⟨himp, hexp, hdiscard⟩ := netSigned_eq creep e
  rw [himp, hexp, hdiscard]
  split <;> omega

theorem netGross_eq (creep : Nat) (p : PhaseSums) :
    ((netGross creep p).aImp : Int) = (if p.grossImp + p.grossExp < creep then 0 else (p.grossImp : Int))
      ∧ ((netGross creep p).aExp : Int) = (if p.grossImp + p.grossExp < creep then 0 else (p.grossExp : Int))
      ∧ (netGross creep p).discard = (if p.grossImp + p.grossExp < creep then p.energy else 0) := by
  unfold netGross
  split <;> simp

theorem netGross_balance (creep : Nat) {p : PhaseSums} (hp : p.energy = (p.grossImp : Int) - p.grossExp) :
    ((netGross creep p).aImp : Int) - (netGross creep p).aExp + (netGross creep p).discard = p.energy := by
  obtain ⟨himp, hexp, hdiscard⟩ := netGross_eq creep p
  rw [himp, hexp, hdiscard]
  split <;> omega

theorem Netted.add_eq (x y : Netted) :
    ((x.add y).aImp : Int) = x.aImp + y.aImp ∧ ((x.add y).aExp : Int) = x.aExp + y.aExp
      ∧ (x.add y).discard = x.discard + y.discard := ⟨Int.natCast_add _ _, Int.natCast_add _ _, rfl⟩

/-- Settles O30: the netting is a sum of netted phases, or one netted connection. -/
theorem nettingConservesEnergy : Obligations.NettingConservesEnergy := by
  rintro mode creep sums r rfl summed total
  refine ⟨?_, ?_, ?_, fun henergy => ?_⟩
  · rintro rfl
    simp only [net, Netted.add_eq, netGross_eq]
    exact ⟨rfl, rfl, rfl⟩
  · rintro rfl
    simp only [net, Netted.add_eq, netSigned_eq]
    exact ⟨rfl, rfl, rfl⟩
  · rintro rfl
    obtain ⟨himp, hexp, hdiscard⟩ := netSigned_eq creep total
    refine ⟨himp, hexp, hdiscard, ?_⟩
    simp only [net, netSigned]
    split
    · exact Or.inl rfl
    · split
      · exact Or.inr rfl
      · exact Or.inl rfl
  · have ha := henergy .a
    have hb := henergy .b
    have hc := henergy .c
    cases mode with
    | gross =>
      have hga := netGross_balance creep ha
      have hgb := netGross_balance creep hb
      have hgc := netGross_balance creep hc
      simp only [net, Netted.add_eq, PerPhase.get, total, summed] at *
      omega
    | phase =>
      have hga := netSigned_balance creep sums.a.energy
      have hgb := netSigned_balance creep sums.b.energy
      have hgc := netSigned_balance creep sums.c.energy
      simp only [net, Netted.add_eq, total, summed]
      omega
    | sum => exact netSigned_balance creep total

/-! ### The check of EXPORT (R75) -/

/-- One more window above the trip level. -/
theorem exportCheck_above {m : Meter} {aExp n : Nat} (htrip : m.expTrip ≠ 0) (habove : m.expTrip * n < aExp) (st : ExportState)
    (count : Nat) : (exportCheck m false aExp n st count).2 =
      (if min (count + 1) m.tripCount = m.tripCount ∨ st = .trip then .trip else .warn, min (count + 1) m.tripCount) := by
  simp only [exportCheck, htrip, habove, if_true, if_false, Bool.false_eq_true]
  by_cases hcount : min (count + 1) m.tripCount = m.tripCount <;> simp [hcount]

/-- Settles O31, by induction on the number of windows. -/
theorem exportCheckTripsAfterItsRun : Obligations.ExportCheckTripsAfterItsRun := by
  intro m aExp n hm htrip
  refine ⟨fun habove k hk => ?_, fun st count => ?_, fun hwarn hwithin count => ?_, fun hbelow st count => ?_⟩
  · obtain ⟨-, -, -, -, -, -, -, ⟨hcount, -⟩, -⟩ := hm
    induction k, hk using Nat.le_induction with
    | base =>
      rw [Function.iterate_one, exportCheck_above htrip habove]
      by_cases hone : m.tripCount = 1
      · simp [hone]
      · have hreached : ¬ min 1 m.tripCount = m.tripCount := by omega
        simp [hreached, show 1 < m.tripCount by omega]
    | succ k hk ih =>
      rw [Function.iterate_succ_apply', ih, exportCheck_above htrip habove]
      have hmin : min (min k m.tripCount + 1) m.tripCount = min (k + 1) m.tripCount := by omega
      simp only [hmin]
      by_cases hbefore : k + 1 < m.tripCount
      · have hreached : ¬ min (k + 1) m.tripCount = m.tripCount := by omega
        simp [hbefore, show k < m.tripCount by omega, show k + 1 ≠ m.tripCount by omega]
      · have hreached : min (k + 1) m.tripCount = m.tripCount := by omega
        simp [hreached, hbefore]
  · simp [exportCheck, htrip]
  · have hnot : ¬ m.expTrip * n < aExp := Nat.not_lt.mpr hwithin
    simp [exportCheck, htrip, hnot, hwarn]
  · obtain ⟨-, -, -, -, -, -, hlevels, -⟩ := hm
    have hwithin : ¬ m.expTrip * n < aExp := Nat.not_lt.mpr (hbelow.trans (Nat.mul_le_mul_right n hlevels))
    have hnot : ¬ m.expWarn * n < aExp := Nat.not_lt.mpr hbelow
    simp [exportCheck, htrip, hwithin, hnot]

/-! ### Processing a set (R60 to R62) -/

/-- Where the engine's own conditions but UNMETERED are as they were reported, UNMETERED alone is reported. -/
theorem State.reportEngine_of_unmetered {s : State}
    (hlow : ∀ x, FlagSet.names s.monitor.conditions (.lowVoltage x) = s.engine.lowVoltage.get x)
    (hwarn : FlagSet.names s.monitor.conditions .exportWarn = s.engine.exportState.warns)
    (htrip : FlagSet.names s.monitor.conditions .exportTrip = s.engine.exportState.trips)
    (hfailsafe : FlagSet.names s.monitor.conditions .failsafe = s.engine.state.isFailsafe) :
    s.reportEngine = s.report .unmetered s.engine.unmetered := by
  have ha := State.report_of_names s _ _ (hlow .a)
  have hb := State.report_of_names s _ _ (hlow .b)
  have hc := State.report_of_names s _ _ (hlow .c)
  have hw := State.report_of_names s _ _ hwarn
  have ht := State.report_of_names s _ _ htrip
  simp only [State.reportEngine]
  simp only [PerPhase.get] at ha hb hc
  rw [ha, hb, hc, hw, ht, State.report_of_names _ .failsafe]
  rw [State.names_report, if_neg (by decide), hfailsafe]

/-- The requests and the window that a set meets (R65, R113, log 28). -/
theorem State.rebandEmpty_eq {s : State} {w : Window} (hrun : s.engine.state ≠ .config) (hwindow : s.engine.window = some w) :
    s.rebandEmpty = { s with
      requests := if w.opening = none then s.requests.filter (fun r => decide (r ≠ .switch)) else s.requests
      engine := { s.engine with window := some { w with
        band := if w.opening = none ∧ .switch ∈ s.requests then s.calendar.band else w.band } } } := by
  have hwindows : s.windowsRun = true := decide_eq_true hrun
  simp only [State.rebandEmpty, hwindow, hwindows, List.contains_iff_mem, true_and]
  by_cases hopening : w.opening = none
  · by_cases hswitch : ForcedCause.switch ∈ s.requests
    · simp [hopening, hswitch]
    · have hkept : s.requests.filter (fun r => decide (r ≠ .switch)) = s.requests :=
        List.filter_eq_self.mpr fun r hr => decide_eq_true (fun h => hswitch (h ▸ hr))
      rw [if_neg (fun h => hswitch h.2), if_pos hopening, hkept, if_neg (fun h => hswitch h.2)]
      simp [← hwindow]
  · rw [if_neg (fun h => hopening h.1), if_neg hopening, if_neg (fun h => hopening h.1)]
    simp [← hwindow]

theorem exec_setProcessing {s : State} (h : s.Ready) {c : CompletedSet} {rest : List CompletedSet}
    (hcompleted : s.completed = c :: rest) :
    exec .setProcessing s = .next ((({ s with completed := rest } : State).rebandEmpty).processSet c) := by
  refine congrArg Host.Outcome.next ((s.after_of_ready h _).trans ?_)
  rw [State.takeCompleted, hcompleted]

theorem State.processSet_of_running {s : State} {w : Window} {m : Meter} (hrun : s.engine.state ≠ .config)
    (hwindow : s.engine.window = some w) (hm : s.tables.meterActive = some m) (c : CompletedSet) :
    s.processSet c = s.processInto w m c := by
  cases hstate : s.engine.state with
  | config => exact absurd hstate hrun
  | metering | failsafe => simp only [State.processSet, hstate, hwindow, hm]

/-- The accumulated sums of one phase (R61), whatever the phase carries. -/
theorem PhaseSums.accumulate_eq (p : PhaseSums) (c : CompletedPhase) :
    p.accumulate c = {
      energy := p.energy + c.power.getD 0
      grossImp := p.grossImp + (c.power.getD 0).toNat
      grossExp := p.grossExp + (-(c.power.getD 0)).toNat
      squares := p.squares + c.square.getD 0
      sets := p.sets + if c.square.isSome then 1 else 0 } := by
  have himp (n : Nat) (w : Int) : (if 0 < w then n + w.toNat else n) = n + w.toNat := by
    split <;> omega
  have hexp (n : Nat) (w : Int) : (if w < 0 then n + (-w).toNat else n) = n + (-w).toNat := by
    split <;> omega
  cases hpower : c.power <;> cases hsquare : c.square <;> simp [accumulate, hpower, hsquare, himp, hexp]

theorem perPhase_ext {α : Type} {p q : PerPhase α} (h : ∀ x, p.get x = q.get x) : p = q := by
  obtain ⟨pa, pb, pc⟩ := p
  obtain ⟨qa, qb, qc⟩ := q
  have ha : pa = qa := h .a
  have hb : pb = qb := h .b
  have hc : pc = qc := h .c
  rw [ha, hb, hc]

/-- The window after a set (R60, R61). -/
theorem Window.take_eq (w : Window) (c : CompletedSet) (day minute : Nat) (m : Meter) {sums : PerPhase PhaseSums} {o : Opening}
    (ho : o = w.opening.getD { day := day, minute := minute, meter := m })
    (hhold : c.status.getLsbD 11 = true → sums = w.sums)
    (hsums : c.status.getLsbD 11 = false → ∀ x, sums.get x =
      if o.meter.lanes.testBit (phaseNumber x) then
        { energy := (w.sums.get x).energy + (c.phases.get x).power.getD 0
          grossImp := (w.sums.get x).grossImp + ((c.phases.get x).power.getD 0).toNat
          grossExp := (w.sums.get x).grossExp + (-((c.phases.get x).power.getD 0)).toNat
          squares := (w.sums.get x).squares + (c.phases.get x).square.getD 0
          sets := (w.sums.get x).sets + if (c.phases.get x).square.isSome then 1 else 0 }
      else w.sums.get x) :
    w.take c day minute m = { count := w.count + 1, band := w.band, opening := some o, sums := sums } := by
  have htaken : (if c.status.getLsbD holdBit then w.sums else accumulateSet o.meter.lanes w.sums c.phases) = sums := by
    cases hbit : c.status.getLsbD holdBit with
    | true => exact (hhold hbit).symm
    | false =>
      refine perPhase_ext fun x => ?_
      simp only [Bool.false_eq_true, if_false, accumulateSet_get, PhaseSums.accumulate_eq, hsums hbit x]
  simp only [Window.take, ← ho, htaken]

/-- The count of one set (R119). -/
theorem Demand.countSet_eq (d : Demand) :
    d.countSet = if (d.state = .running ∨ d.state = .ending) ∧ d.current ≠ 0 then
        { d with current := d.current - 1, terminal := d.terminal || decide (d.current = 1) }
      else d := by
  unfold countSet
  cases hstate : d.state <;> by_cases hzero : d.current = 0 <;> simp [hzero]

/-- The state in which a set has been counted and accumulated, before the engine reports (R61, R62, R119). -/
def State.counted (s : State) (taken : Window) (hold : Bool) : State :=
  { s with engine := { s.engine.countHold hold with window := some taken }, demand := s.demand.countSet }

theorem State.processInto_eq {s : State} {w taken : Window} {m : Meter} {c : CompletedSet} {o : Opening}
    (htaken : w.take c s.calendar.day s.calendar.minute m = taken) (ho : taken.opening = some o) :
    s.processInto w m c = if taken.count = o.meter.nw then
        ((s.counted taken (c.status.getLsbD 11)).reportEngine.takeTerminal).closeWindow taken o .full
      else (s.counted taken (c.status.getLsbD 11)).reportEngine := by
  simp only [State.processInto, htaken, ho]
  rfl

/-- A set that does not fill the window (R61, R62): UNMETERED alone can change its condition. -/
theorem State.counted_reportEngine {s : State} (hs : s.MonitorLaw) (taken : Window) (hold : Bool) :
    (s.counted taken hold).reportEngine =
      (s.counted taken hold).report .unmetered hold := by
  obtain ⟨hlive, -⟩ := hs
  have hengine : (s.counted taken hold).engine.unmetered = hold ∧ (s.counted taken hold).engine.lowVoltage = s.engine.lowVoltage
      ∧ (s.counted taken hold).engine.exportState = s.engine.exportState
      ∧ (s.counted taken hold).engine.state = s.engine.state := by
    cases hold <;> exact ⟨rfl, rfl, rfl, rfl⟩
  obtain ⟨hunmetered, hlow, hexport, hstate⟩ := hengine
  have hconditions : (s.counted taken hold).monitor.conditions = s.liveConditions := hlive
  rw [State.reportEngine_of_unmetered, hunmetered]
  · intro x
    rw [hconditions, s.liveConditions_lowVoltage, hlow]
  · rw [hconditions, s.liveConditions_exportWarn, hexport]
  · rw [hconditions, s.liveConditions_exportTrip, hexport]
  · rw [hconditions, s.liveConditions_failsafe, hstate]

/-- Settles O27: the window takes the set, the counter counts it, and UNMETERED is reported. -/
theorem setProcessingAccumulates : Obligations.SetProcessingAccumulates := by
  intro s c rest hready hcompleted
  refine ⟨fun hconfig => ?_, ?_⟩
  · rw [exec_setProcessing hready hcompleted]
    have hkept : ({ s with completed := rest } : State).rebandEmpty = { s with completed := rest } := by
      have hstopped : ({ s with completed := rest } : State).windowsRun = false := by simp [State.windowsRun, hconfig]
      rw [State.rebandEmpty, hstopped]
      split
      · rfl
      · exact if_neg (by simp)
    rw [hkept]
    simp only [State.processSet, hconfig]
  · intro w m sums counted hlaw hrun hwindow hm opening band requests hsums hcounted
    have hlaw' : ({ s with
        completed := rest, requests := requests
        engine := { s.engine with window := some { w with band := band } } } : State).MonitorLaw := hlaw.congr rfl rfl
    have hprocessed (sums' : PerPhase PhaseSums) (hcount : w.count + 1 ≠ opening.meter.nw)
        (htake : ({ w with band := band } : Window).take c s.calendar.day s.calendar.minute m =
          { count := w.count + 1, band := band, opening := some opening, sums := sums' }) :
        exec .setProcessing s = .next ((({ s with
          completed := rest, requests := requests
          engine := { s.engine with window := some { w with band := band } } } : State).counted
            { count := w.count + 1, band := band, opening := some opening, sums := sums' }
            (c.status.getLsbD 11)).report .unmetered (c.status.getLsbD 11)) := by
      have hreband := State.rebandEmpty_eq (s := { s with completed := rest }) hrun hwindow
      rw [exec_setProcessing hready hcompleted, hreband, State.processSet_of_running (w := { w with band := band })]
      · rw [State.processInto_eq (o := opening) (by exact htake) (by rfl)]
        rw [if_neg (by exact hcount)]
        rw [State.counted_reportEngine hlaw']
      · exact hrun
      · rfl
      · exact hm
    have htake (sums' : PerPhase PhaseSums) (hhold : c.status.getLsbD 11 = true → sums' = w.sums)
        (haccumulated : c.status.getLsbD 11 = false → sums' = sums) :=
      Window.take_eq { w with band := band } c s.calendar.day s.calendar.minute m (sums := sums') (o := opening) rfl hhold
        (fun hclear x => by rw [haccumulated hclear]; exact hsums x)
    have hdemand : s.demand.countSet = counted := (Demand.countSet_eq _).trans hcounted.symm
    refine ⟨fun hcount hclear => ?_, fun hcount hhold => ?_⟩
    · rw [hprocessed sums hcount (htake sums (fun h => absurd (h.symm.trans hclear) (by decide)) (fun _ => rfl)), hclear, ← hdemand]
      rfl
    · rw [hprocessed w.sums hcount (htake w.sums (fun _ => rfl) (fun h => absurd (hhold.symm.trans h) (by decide))), hhold, ← hdemand]
      simp only [State.counted, Engine.countHold, if_true, satInc_eq_min]
      rfl

end Sys2Proof.Machine

/-! # The reads of the status (R19, R80, R81, R145, R175, R182) -/

namespace Sys2Proof.Machine

/-! ### Numbers as they travel (R170) -/

theorem beBytes_one (v : Nat) : beBytes 1 v = [BitVec.ofNat 8 v] := rfl

/-- A byte of a number, counted from its low end. -/
theorem beBytes_getD {n k : Nat} (v : Nat) (hk : k < n) : (beBytes n v).getD k 0 = BitVec.ofNat 8 (v / 256 ^ (n - 1 - k)) := by
  induction n generalizing v with
  | zero => exact absurd hk (Nat.not_lt_zero k)
  | succ n ih =>
    rw [beBytes, List.getD_eq_getElem?_getD]
    by_cases hlast : k = n
    · subst hlast
      rw [List.getElem?_append_right (by simp)]
      simp
    · have hk' : k < n := by omega
      rw [List.getElem?_append_left (by simpa using hk'), ← List.getD_eq_getElem?_getD, ih (v / 256) hk', Nat.div_div_eq_div_mul,
        show n + 1 - 1 - k = n - 1 - k + 1 by omega, Nat.pow_succ, Nat.mul_comm]

theorem beBytes_zero_value (n : Nat) : beBytes n 0 = List.replicate n 0 := by
  induction n with
  | zero => rfl
  | succ n ih =>
    rw [beBytes, Nat.zero_div, ih, List.replicate_succ']
    rfl

/-! ### Executed reads -/

/-- A read answers with what its owner gives of the state before it. -/
theorem State.execute_of_read {s : State} {code : Byte} {params data : List Byte} {rest : List (List Byte)} {n : Nat}
    {own : List Byte → State → Reply} (h : s.Executes code params rest) (hlength : params.length = n)
    (hown : own params (s.withCommands rest) = (s.withCommands rest).okay data) :
    Host.Outcome.next (s.execute code (lengthIs n) own) = (.next (s.answered rest code .ok data) : Host.Outcome State Fault Refusal) :=
  congrArg Host.Outcome.next (s.execute_of_reply s h (by simp [lengthIs, hlength]) hown)

theorem flagSetBytes_eq (f : FlagSet) : flagSetBytes f = (List.range 6).map (fun i => f.extractLsb' (8 * i) 8) := rfl

/-- Where no window is open its fields are zero (R80). -/
theorem windowBytes_none : windowBytes none = List.replicate 115 0 := by decide

/-- Settles O57: each answer is its owner's, byte by byte. -/
theorem statusReadsGiveTheValuesThatStand : Obligations.StatusReadsGiveTheValuesThatStand := by
  intro s rest
  refine ⟨fun h => ?_, fun h w => ⟨fun hnone => ?_, fun hwindow hopening => ?_, fun o hwindow hopening => ?_⟩, fun h => ?_,
    fun h => ⟨fun m hm => ?_, fun hm => ⟨Config.watchdogLimitWithoutTable.toNat, BitVec.isLt _, ?_⟩⟩, fun h => ?_,
    fun lane h => ⟨fun hlane => ?_, fun x hlane => ?_⟩, fun n v => ⟨beBytes_length n v, fun k hk => beBytes_getD v hk⟩,
    fun n v => ?_, fun p => rfl, by decide, by decide, by decide⟩
  · refine State.execute_of_read h rfl (congrArg (s.withCommands rest).okay ?_)
    have hlane (l : Lane) : l.bytes = [laneStateCode l.state, BitVec.ofNat 8 l.queue.length, BitVec.ofNat 8 l.presentRun,
          BitVec.ofNat 8 l.absentRun, BitVec.ofNat 8 l.sequenceRun]
        ++ beBytes 2 l.periodPosition ++ beBytes 2 l.periodErrors ++ beBytes 2 l.lastPeriodErrors
        ++ ((if l.voltage.stuck then 0 else 1) :: beBytes 2 l.voltage.equalRun)
        ++ ((if l.current.stuck then 0 else 1) :: beBytes 2 l.current.equalRun)
        ++ ([l.counters.accepted, l.counters.crcErrors, l.counters.sequenceErrors, l.counters.late,
            l.counters.resyncs, l.counters.restarts, l.counters.lost, l.counters.overrange].map (beBytes 4)).flatten := by
      simp [Lane.bytes, Detector.bytes, stuckCode, LaneCounters.bytes, beBytes_one]
    simp only [← hlane]
    rfl
  · refine State.execute_of_read h rfl (congrArg (s.withCommands rest).okay ?_)
    have hwindow : (s.withCommands rest).engine.window = none := hnone
    rw [hwindow, windowBytes_none]
    rfl
  · refine State.execute_of_read h rfl (congrArg (s.withCommands rest).okay ?_)
    have hwindow' : (s.withCommands rest).engine.window = some w := hwindow
    rw [hwindow', windowBytes, hopening, beBytes_zero_value]
    simp [bandByte, State.withCommands]
  · refine State.execute_of_read h rfl (congrArg (s.withCommands rest).okay ?_)
    have hwindow' : (s.withCommands rest).engine.window = some w := hwindow
    rw [hwindow', windowBytes, hopening]
    simp [bandByte, State.withCommands]
  · refine State.execute_of_read h rfl (congrArg (s.withCommands rest).okay ?_)
    simp [directionBytes, CycleMemory.bytes, PerPhase.toList, beBytes_one, State.withCommands]
  · refine State.execute_of_read h rfl (congrArg (s.withCommands rest).okay ?_)
    have hlimit : (s.withCommands rest).limitShown = m.watchdog * 4000 := by
      have hm' : (s.withCommands rest).tables.meterActive = some m := hm
      rw [State.limitShown, hm']
      rfl
    rw [hlimit]
    cases hrunning : s.monitor.watchdogRunning <;> simp [flagSetBytes_eq, watchdogCode, State.withCommands, hrunning]
  · refine State.execute_of_read h rfl (congrArg (s.withCommands rest).okay ?_)
    have hlimit : (s.withCommands rest).limitShown = Config.watchdogLimitWithoutTable.toNat := by
      have hm' : (s.withCommands rest).tables.meterActive = none := hm
      rw [State.limitShown, hm']
    rw [hlimit]
    cases hrunning : s.monitor.watchdogRunning <;> simp [flagSetBytes_eq, watchdogCode, State.withCommands, hrunning]
  · refine State.execute_of_read h rfl (congrArg (s.withCommands rest).okay ?_)
    cases hindex : s.capture.sourceIndex <;> simp [optionalIndex, hindex, beBytes_one, beBytes_zero_value, State.withCommands]
  · refine congrArg Host.Outcome.next (s.execute_of_refused h rfl ?_)
    simp only [readLinkTest, List.getD_cons_zero, (phaseOf_eq_none_iff _).mpr hlane]
  · refine State.execute_of_read h rfl ?_
    simp only [readLinkTest, List.getD_cons_zero, hlane, phaseOf_phaseNumber]
    refine congrArg (s.withCommands rest).okay ?_
    simp [Checker.bytes, limitOf, beBytes_one, State.withCommands]
  · rw [beSigned]
    norm_cast

end Sys2Proof.Machine

/-! # The paged reads, the clock, the special days and the tables (R93, R95, R103, R108, R127, R132) -/

namespace Sys2Proof.Machine

/-! ### The bank and its snapshot (R93, R95) -/

/-- The bytes of a page of accounts, written out. -/
def Accounts.pageBytes (acc : Accounts) (n : Nat) : List Byte :=
  let bands := fun (r : Vector Nat 8) (residue : Nat) =>
    (r.toList.map (beBytes 6)).flatten ++ beBytes 6 (r.toList.sum % 281474976710656) ++ beBytes 6 residue
  let flows := fun f : PerPhase Flows => ([f.a.imp, f.a.exp, f.b.imp, f.b.exp, f.c.imp, f.c.exp].map (beBytes 6)).flatten
  beBytes 4 acc.updateCount ++
    (if n = 0 then bands acc.bandImp acc.residue.imp else if n = 1 then bands acc.bandExp acc.residue.exp
      else flows acc.gross ++ flows acc.grossResidue)

theorem flowsBytes_eq (f : PerPhase Flows) :
    flowsBytes f = ([f.a.imp, f.a.exp, f.b.imp, f.b.exp, f.c.imp, f.c.exp].map (beBytes 6)).flatten := by
  simp [flowsBytes, PerPhase.toList]

theorem Accounts.page_eq (acc : Accounts) {n : Nat} (h : n ≤ 2) : acc.page n = some (acc.pageBytes n) := by
  match n with
  | 0 => rfl
  | 1 => rfl
  | 2 =>
    simp only [page, flowsBytes_eq, List.append_assoc]
    rfl

theorem Accounts.page_eq_none (acc : Accounts) {n : Nat} (h : 2 < n) : acc.page n = none := by
  match n with
  | n + 3 => rfl

section BankReads

variable {s : State} {page : Byte} {rest : List (List Byte)}

theorem exec_readBank_page (h : s.Executes 0x20#8 [page] rest) {data : List Byte}
    (hpage : s.bank.accounts.page page.toNat = some data) : exec .readBank s = .next (s.answered rest 0x20#8 .ok data) := by
  have hpage' : (s.withCommands rest).bank.accounts.page page.toNat = some data := hpage
  refine State.execute_of_read h rfl ?_
  simp only [readBank, List.getD_cons_zero, hpage', State.page]

theorem exec_readBank_none (h : s.Executes 0x20#8 [page] rest) (hpage : s.bank.accounts.page page.toNat = none) :
    exec .readBank s = .next (s.answered rest 0x20#8 .refusedRange []) := by
  have hpage' : (s.withCommands rest).bank.accounts.page page.toNat = none := hpage
  refine congrArg Host.Outcome.next (s.execute_of_refused h rfl ?_)
  simp only [readBank, List.getD_cons_zero, hpage', State.page]

theorem exec_readSnapshot_page (h : s.Executes 0x22#8 [page] rest) {data : List Byte}
    (hpage : s.bank.snapshot.page page.toNat = some data) :
    exec .readSnapshot s = .next (s.answered rest 0x22#8 .ok data) := by
  have hpage' : (s.withCommands rest).bank.snapshot.page page.toNat = some data := hpage
  refine State.execute_of_read h rfl ?_
  simp only [readSnapshot, List.getD_cons_zero, hpage', State.page]

theorem exec_readSnapshot_none (h : s.Executes 0x22#8 [page] rest) (hpage : s.bank.snapshot.page page.toNat = none) :
    exec .readSnapshot s = .next (s.answered rest 0x22#8 .refusedRange []) := by
  have hpage' : (s.withCommands rest).bank.snapshot.page page.toNat = none := hpage
  refine congrArg Host.Outcome.next (s.execute_of_refused h rfl ?_)
  simp only [readSnapshot, List.getD_cons_zero, hpage', State.page]

/-! ### The demand unit (R127) -/

theorem exec_readDemand_page (h : s.Executes 0x38#8 [page] rest) {data : List Byte}
    (hpage : s.demandPage page.toNat = some data) :
    exec .readDemand s = .next (s.answered rest 0x38#8 .ok (beBytes 2 s.demand.resetCount ++ data)) := by
  have hpage' : (s.withCommands rest).demandPage page.toNat = some data := hpage
  refine State.execute_of_read h rfl ?_
  simp only [readDemand, List.getD_cons_zero, hpage']
  rfl

theorem exec_readDemand_none (h : s.Executes 0x38#8 [page] rest) (hpage : s.demandPage page.toNat = none) :
    exec .readDemand s = .next (s.answered rest 0x38#8 .refusedRange []) := by
  have hpage' : (s.withCommands rest).demandPage page.toNat = none := hpage
  refine congrArg Host.Outcome.next (s.execute_of_refused h rfl ?_)
  simp only [readDemand, List.getD_cons_zero, hpage']

end BankReads

theorem State.demandPage_eq_none (s : State) {n : Nat} (h : 4 < n) : s.demandPage n = none := by
  match n with
  | n + 5 => rfl

theorem demandModeCode_demandModeOf {n : Nat} (h : n ≤ 3) : demandModeCode (demandModeOf n) = BitVec.ofNat 8 n := by
  match n with
  | 0 | 1 | 2 | 3 => rfl
  | n + 4 => omega

/-! ### The clock (R103) -/

theorem specialProfile_of_first {before later : List SpecialDay} {e : SpecialDay} {day : Nat} (hday : e.day = day)
    (hbefore : ∀ d ∈ before, d.day ≠ day) : specialProfile (before ++ e :: later) day = some e.profile := by
  have hnone : before.find? (fun d => d.day == day) = none :=
    List.find?_eq_none.mpr fun d hd => by simpa using hbefore d hd
  simp [specialProfile, List.find?_append, hnone, hday]

theorem specialProfile_of_ordinary {days : List SpecialDay} {day : Nat} (h : ∀ e ∈ days, e.day ≠ day) :
    specialProfile days day = none := by
  have hnone : days.find? (fun d => d.day == day) = none := List.find?_eq_none.mpr fun d hd => by simpa using h d hd
  simp [specialProfile, hnone]

theorem exec_readClock {s : State} {rest : List (List Byte)} (h : s.Executes 0x31#8 [] rest) {weekday profile : Nat}
    {origin : Byte} (hweekday : s.weekday = weekday) (hprofile : s.profileToday = profile) (horigin : s.profileOrigin = origin) :
    exec .readClock s = .next (s.answered rest 0x31#8 .ok
      ([markByte s.calendar.clockSet] ++ beBytes 2 s.calendar.day ++ beBytes 2 s.calendar.minute
        ++ beBytes 3 s.calendar.strobeCount
        ++ [BitVec.ofNat 8 weekday, BitVec.ofNat 8 profile, origin,
          BitVec.ofNat 8 s.calendar.band.val, bandSourceCode s.calendar.source,
          BitVec.ofNat 8 s.calendar.specialDays.length])) := by
  subst hweekday hprofile horigin
  refine State.execute_of_read h rfl (congrArg (s.withCommands rest).okay ?_)
  have hsame : (s.withCommands rest).weekday = s.weekday ∧ (s.withCommands rest).profileToday = s.profileToday
      ∧ (s.withCommands rest).profileOrigin = s.profileOrigin := ⟨rfl, rfl, rfl⟩
  obtain ⟨hweekday, hprofile, horigin⟩ := hsame
  rw [hweekday, hprofile, horigin]
  simp [beBytes_one, bandByte, State.withCommands]

/-! ### The tables (R132) -/

/-- Entries of known widths are read out of the image between two offsets. -/
theorem entries_flatten_eq {l : List (List Byte)} {name : TableName} (hwidths : l.map List.length = name.widths)
    {first count : Nat} (h : first + count ≤ entryLimit name) :
    ((l.drop first).take count).flatten =
      ((image l).drop (name.offset first)).take (name.offset (first + count) - name.offset first) := by
  have htake : (image l).take (name.offset (first + count)) = image (l.take (first + count)) := by
    rw [← name.sum_take_widths h, ← hwidths]
    exact List.take_sum_flatten _ _
  have hdrop : (image (l.take (first + count))).drop (name.offset first) = image ((l.take (first + count)).drop first) := by
    have hsum : (((l.take (first + count)).map List.length).take first).sum = name.offset first := by
      rw [List.map_take, List.take_take, Nat.min_eq_left (Nat.le_add_right first count), hwidths,
        name.sum_take_widths (Nat.le_of_add_right_le h)]
    rw [← hsum]
    exact List.drop_sum_flatten _ _
  rw [← List.drop_take, htake, hdrop, List.drop_take, Nat.add_sub_cancel_left]
  rfl

/-- The widths of an active copy's entries. -/
theorem State.TableLaw.activeEntries_widths {s : State} (h : s.TableLaw) {name : TableName} {l : List (List Byte)}
    (hl : s.tables.activeEntries name = some l) : l.map List.length = name.widths := by
  obtain ⟨hpoints, hweek, htrigger⟩ := h.sized
  obtain ⟨-, -, -, -, -, -, -, -, hactive⟩ := h
  cases name with
  | cal =>
    obtain ⟨t, -, rfl⟩ := Option.map_eq_some_iff.mp hl
    exact Tables.pendingEntries_widths (t := { s.tables with calPending := t }) ⟨hpoints, hweek, htrigger⟩ .cal
  | meter =>
    obtain ⟨t, -, rfl⟩ := Option.map_eq_some_iff.mp hl
    exact Tables.pendingEntries_widths (t := { s.tables with meterPending := t }) ⟨hpoints, hweek, htrigger⟩ .meter
  | calendar =>
    obtain ⟨t, ht, rfl⟩ := Option.map_eq_some_iff.mp hl
    obtain ⟨htpoints, htweek, -⟩ := hactive t ht
    exact Tables.pendingEntries_widths (t := { s.tables with calendarPending := t }) ⟨htpoints, htweek, htrigger⟩ .calendar
  | trigger =>
    cases hl
    exact Tables.pendingEntries_widths ⟨hpoints, hweek, htrigger⟩ .trigger

theorem entries_flatten_length {l : List (List Byte)} {name : TableName} (hwidths : l.map List.length = name.widths)
    {first count : Nat} (h : first + count ≤ entryLimit name) :
    ((l.drop first).take count).flatten.length = name.offset (first + count) - name.offset first := by
  have hsum : (name.widths.take (first + count)).sum
      = (name.widths.take first).sum + ((name.widths.drop first).take count).sum := by
    rw [List.take_add, List.sum_append]
  rw [name.sum_take_widths h, name.sum_take_widths (Nat.le_of_add_right_le h)] at hsum
  rw [List.length_flatten, List.map_take, List.map_drop, hwidths]
  omega

/-- READ TABLE refuses what the widths and the last index of the table refuse. -/
theorem readTable_refused_iff {s : State} (hlaw : s.TableLaw) {name : TableName} {last copy first count : Nat}
    (hlimit : entryLimit name = last + 1) :
    (1 < copy ∨ count = 0 ∨ entryLimit name < first + count
        ∨ 112 < (((s.tables.pendingEntries name).drop first).take count).flatten.length) ↔
      (1 < copy ∨ count = 0 ∨ last < first + count - 1 ∨ 112 < name.offset (first + count) - name.offset first) := by
  by_cases hcount : count = 0
  · simp [hcount]
  · by_cases hwithin : first + count ≤ entryLimit name
    · rw [entries_flatten_length (Tables.pendingEntries_widths hlaw.sized name) hwithin]
      have hlast : ¬ last < first + count - 1 := by omega
      simp [hcount, hlast, Nat.not_lt.mpr hwithin]
    · have hpast : last < first + count - 1 := by omega
      simp [hpast, Nat.lt_of_not_le hwithin]

section ReadTable

variable {s : State} {number copy first count : Byte} {rest : List (List Byte)}
  (h : s.Executes 0x40#8 [number, copy, first, count] rest)

include h

theorem exec_readTable_unknown (hnumber : 3 < number.toNat) :
    exec .readTable s = .next (s.answered rest 0x40#8 .refusedRange []) := by
  refine congrArg Host.Outcome.next (s.execute_of_refused h rfl ?_)
  simp only [readTable, List.getD_cons_zero, tableOf_eq_none hnumber]

variable {name : TableName} (hnumber : number = name.number)

include hnumber

theorem exec_readTable_refused (hrefused : 1 < copy.toNat ∨ count.toNat = 0 ∨ entryLimit name < first.toNat + count.toNat
      ∨ 112 < (((s.tables.pendingEntries name).drop first.toNat).take count.toNat).flatten.length) :
    exec .readTable s = .next (s.answered rest 0x40#8 .refusedRange []) := by
  refine congrArg Host.Outcome.next (s.execute_of_refused h rfl ?_)
  simp only [readTable, List.getD_cons_zero, List.getD_cons_succ, hnumber, tableOf_number]
  exact if_pos hrefused

theorem exec_readTable_read (hread : ¬ (1 < copy.toNat ∨ count.toNat = 0 ∨ entryLimit name < first.toNat + count.toNat
      ∨ 112 < (((s.tables.pendingEntries name).drop first.toNat).take count.toNat).flatten.length)) :
    exec .readTable s = .next (s.answered rest 0x40#8 .ok (s.tables.readData name copy.toNat first.toNat count.toNat)) := by
  refine State.execute_of_read h rfl ?_
  simp only [readTable, List.getD_cons_zero, List.getD_cons_succ, hnumber, tableOf_number]
  exact if_neg hread

end ReadTable

/-- A valid copy reads as its CRC and the named entries. -/
theorem Tables.readData_of_entries {t : Tables} {name : TableName} {copy first count : Nat} {l : List (List Byte)}
    (hl : t.copyEntries name copy = some l) (hwidths : l.map List.length = name.widths)
    (h : first + count ≤ entryLimit name) :
    t.readData name copy first count = [markByte (t.request name), 1] ++ beBytes 2 (crc16 (image l)).toNat
      ++ ((image l).drop (name.offset first)).take (name.offset (first + count) - name.offset first) := by
  simp only [readData, hl, entries_flatten_eq hwidths h]
  rfl

/-- Settles O58: each page is its owner's, and a table's entries stand between two offsets of its image. -/
theorem pagedReadsGiveTheValuesThatStand : Obligations.PagedReadsGiveTheValuesThatStand := by
  intro s rest page bands flows pageOf records days
  refine ⟨fun h => ⟨fun hpage => ?_, fun hpage => ?_⟩, fun h => ⟨fun hpage => ?_, fun hpage => ?_, fun hlow hhigh => ?_⟩,
    fun h => ⟨fun hpage => ?_, fun hpage => ⟨fun m hm hmode => ?_, fun hm => ⟨Config.intervalWithoutTable.toNat, BitVec.isLt _, ?_⟩⟩,
      fun v hpage => ?_⟩,
    fun h => ⟨fun t profile ht => ⟨fun hspecial => ?_, fun hordinary hweek => ?_⟩,
      fun hnone => ⟨fun profile hspecial => ?_, fun hordinary => ?_⟩⟩,
    fun h => ?_, fun name last number copy first count hlaw hlast h => ?_, by decide⟩
  · exact exec_readBank_none h (Accounts.page_eq_none _ hpage)
  · exact exec_readBank_page h (Accounts.page_eq _ hpage)
  · refine exec_readSnapshot_none h ?_
    obtain ⟨n, hn⟩ := Nat.exists_eq_add_of_le' hpage
    rw [hn]
    rfl
  · refine exec_readSnapshot_page h ?_
    rw [hpage]
    rfl
  · refine exec_readSnapshot_page h ?_
    obtain ⟨n, hn⟩ := Nat.exists_eq_add_of_le' hlow
    rw [hn, Nat.add_sub_cancel]
    exact Accounts.page_eq _ (by omega)
  · exact exec_readDemand_none h (s.demandPage_eq_none hpage)
  · have hmode' : demandModeCode s.demandMode = BitVec.ofNat 8 m.demandMode := by
      rw [← demandModeCode_demandModeOf hmode, State.demandMode, hm]
    have hshown : s.intervalShown = m.di := by rw [State.intervalShown, hm]
    rw [exec_readDemand_page h (by rw [hpage]; rfl), hmode', hshown]
    simp [beBytes_one]
  · have hmode' : demandModeCode s.demandMode = 3 := by
      rw [State.demandMode, hm]
      rfl
    have hshown : s.intervalShown = Config.intervalWithoutTable.toNat := by rw [State.intervalShown, hm]
    rw [exec_readDemand_page h (by rw [hpage]; rfl), hmode', hshown]
    simp [beBytes_one]
  · simp only [List.mem_cons, Prod.mk.injEq, List.not_mem_nil, or_false] at hpage
    refine exec_readDemand_page h ?_
    rcases hpage with ⟨hpage, rfl⟩ | ⟨hpage, rfl⟩ | ⟨hpage, rfl⟩ | ⟨hpage, rfl⟩ <;> (rw [hpage]; rfl)
  · obtain ⟨before, e, later, hdays, hday, rfl, hbefore⟩ := hspecial
    have hprofile := specialProfile_of_first (later := later) hday hbefore
    rw [← hdays] at hprofile
    exact exec_readClock h (by rw [State.weekday, ht]; rfl) (by rw [State.profileToday, hprofile])
      (by rw [State.profileOrigin, hprofile]; rfl)
  · have hprofile := specialProfile_of_ordinary hordinary
    refine exec_readClock h (by rw [State.weekday, ht]; rfl) ?_ (by rw [State.profileOrigin, hprofile, ht]; rfl)
    rw [State.profileToday, hprofile, ht]
    simp [weekdayOf, List.getD_eq_getElem?_getD, hweek]
  · obtain ⟨before, e, later, hdays, hday, rfl, hbefore⟩ := hspecial
    have hprofile := specialProfile_of_first (later := later) hday hbefore
    rw [← hdays] at hprofile
    exact exec_readClock h (by rw [State.weekday, hnone]; rfl) (by rw [State.profileToday, hprofile])
      (by rw [State.profileOrigin, hprofile]; rfl)
  · have hprofile := specialProfile_of_ordinary hordinary
    refine ⟨Config.profileWithoutTable.toNat, Config.originWithoutTable.setWidth 8, Nat.le_of_lt_succ (BitVec.isLt _), ?_,
      exec_readClock h (by rw [State.weekday, hnone]; rfl) (by rw [State.profileToday, hprofile, hnone])
        (by rw [State.profileOrigin, hprofile, hnone]; rfl)⟩
    have := Config.originWithoutTable.isLt
    rw [BitVec.toNat_setWidth]
    omega
  · refine State.execute_of_read h rfl (congrArg (s.withCommands rest).okay ?_)
    simp [beBytes_one, State.withCommands, days]
  · have hlimit : entryLimit name = last + 1 := by
      simp only [List.mem_cons, Prod.mk.injEq, List.not_mem_nil, or_false] at hlast
      rcases hlast with ⟨rfl, rfl⟩ | ⟨rfl, rfl⟩ | ⟨rfl, rfl⟩ | ⟨rfl, rfl⟩ <;> rfl
    have hzero : count = 0 ↔ count.toNat = 0 := by
      rw [← BitVec.toNat_inj]
      rfl
    intro from' length refused gives
    have hrefused : (1 < copy.toNat ∨ count.toNat = 0 ∨ entryLimit name < first.toNat + count.toNat
        ∨ 112 < (((s.tables.pendingEntries name).drop first.toNat).take count.toNat).flatten.length) ↔ refused := by
      rw [readTable_refused_iff hlaw hlimit, ← hzero]
    have hwithin (hread : ¬ refused) : first.toNat + count.toNat ≤ entryLimit name :=
      Nat.not_lt.mp fun hpast => hread (hrefused.mp (Or.inr (Or.inr (Or.inl hpast))))
    refine ⟨?_, fun hnumber hread hcopy => ?_, fun entries hnumber hread hcopy hentries => ?_, fun hnumber hread hcopy hentries => ?_⟩
    · rintro (hunknown | ⟨hnumber, hrefuses⟩)
      · exact exec_readTable_unknown h hunknown
      · exact exec_readTable_refused h hnumber (hrefused.mpr hrefuses)
    · refine (exec_readTable_read h hnumber (mt hrefused.mp hread)).trans ?_
      rw [hcopy, Tables.readData_of_entries (l := s.tables.pendingEntries name) rfl
        (Tables.pendingEntries_widths hlaw.sized name) (hwithin hread)]
    · refine (exec_readTable_read h hnumber (mt hrefused.mp hread)).trans ?_
      have hcopied : s.tables.copyEntries name (1 : Byte).toNat = some entries := hentries
      rw [hcopy, Tables.readData_of_entries hcopied (hlaw.activeEntries_widths hentries) (hwithin hread)]
    · refine (exec_readTable_read h hnumber (mt hrefused.mp hread)).trans ?_
      have hcopied : s.tables.copyEntries name (1 : Byte).toNat = none := hentries
      rw [hcopy, Tables.readData, hcopied]
      simp only [entries_flatten_length (Tables.pendingEntries_widths hlaw.sized name) (hwithin hread)]
      rfl

end Sys2Proof.Machine

/-! # The command queue and the command table (O56) -/

namespace Sys2Proof.Machine

/-! ### A command row that is not due -/

/-- A row whose command is not at the head, or that finds no response slot, does nothing (log 2). -/
theorem State.execute_of_not_due {s : State} (hready : s.Ready) {code : Byte} (ok : List Byte → Bool)
    (own : List Byte → State → Reply)
    (h : ∀ p rest, s.link.commands = (code :: p) :: rest → 4 ≤ s.link.responses.length) :
    s.execute code ok own = s := by
  rw [State.execute, s.after_of_ready hready]
  split
  · rename_i c params rest hhead
    refine if_neg fun ⟨hslot, hcode⟩ => ?_
    subst hcode
    exact absurd hslot (Nat.not_lt.mpr (h params rest hhead))
  · rfl

theorem State.executeUnknown_of_not_due {s : State} (hready : s.Ready)
    (h : ∀ c p rest, s.link.commands = (c :: p) :: rest → commandCodes.contains c = false → 4 ≤ s.link.responses.length) :
    s.executeUnknown = s := by
  rw [State.executeUnknown, s.after_of_ready hready]
  split
  · rename_i c params rest hhead
    exact if_neg fun ⟨hslot, hunknown⟩ => absurd hslot (Nat.not_lt.mpr (h c params rest hhead hunknown))
  · rfl

/-! ### The known codes (R169) -/

theorem commandCodes_of_fixedCommand {d : Instr} {code : Byte} {m : Nat} (h : d.fixedCommand = some (code, m)) :
    commandCodes.contains code = true := by
  cases d <;> cases h <;> rfl

/-- Every code of the command table but WRITE TABLE's has a row of fixed length. -/
theorem fixedCommand_of_commandCodes : ∀ code ∈ commandCodes, code ≠ 0x41#8 →
    ∃ d m, Instr.fixedCommand d = some (code, m) := by
  have hrows : ∀ code ∈ commandCodes, code ≠ 0x41#8 →
      some code ∈ [Instr.readLanes, .start, .stop, .resume, .engineReset, .readWindow, .readCounters, .readBank, .snapshot,
        .readSnapshot, .preload, .setTime, .readClock, .addSpecialDay, .removeSpecialDay, .readSpecialDays, .readDemand,
        .resetDemand, .readTable, .applyTable, .cancelApply, .readFlags, .clearFlags, .setMask, .captureArm,
        .captureTrigger, .captureStop, .readCaptureStatus, .linkTestStart, .linkTestStop, .readLinkTest].map
          (fun d => d.fixedCommand.map Prod.fst) := by decide
  intro code hcode hwrite
  obtain ⟨d, -, hd⟩ := List.mem_map.mp (hrows code hcode hwrite)
  obtain ⟨⟨c, m⟩, hrow, rfl⟩ := Option.map_eq_some_iff.mp hd
  exact ⟨d, m, hrow⟩

/-- The code of a command is known where a row of the command table carries it (R169). -/
theorem commandCodes_contains_iff (code : Byte) :
    commandCodes.contains code = true ↔ (∃ d m, Instr.fixedCommand d = some (code, m)) ∨ code = 0x41#8 := by
  refine ⟨fun h => ?_, ?_⟩
  · by_cases hwrite : code = 0x41#8
    · exact .inr hwrite
    · exact .inl (fixedCommand_of_commandCodes code (List.contains_iff_mem.mp h) hwrite)
  · rintro (⟨d, m, h⟩ | rfl)
    · exact commandCodes_of_fixedCommand h
    · rfl

/-- Settles O56. -/
theorem commandsWaitAndAreCheckedForLength : Obligations.CommandsWaitAndAreCheckedForLength := by
  intro s c code n
  refine ⟨fun hrow => ⟨fun p rest hexecutes hlength => ?_, fun hready hhead => ?_⟩, fun hready hwaits hkind => ?_,
    fun p rest hexecutes hunknown hwrite => ?_, fun p rest hexecutes hknown => ?_, fun p rest hexecutes hwrite => ?_⟩
  · rw [exec_of_fixedCommand hrow, s.execute_of hexecutes, s.answerHead_of_bad rest code p]
    exact decide_eq_false hlength
  · rw [exec_of_fixedCommand hrow, s.execute_of_not_due hready _ _ fun p rest h => absurd h (hhead p rest)]
  · have hslot {b : Byte} {p : List Byte} {rest : List (List Byte)} (h : s.link.commands = (b :: p) :: rest) :
        4 ≤ s.link.responses.length := hwaits.resolve_right fun hnil => by simp [hnil] at h
    rcases hkind with hfixed | rfl | rfl
    · obtain ⟨⟨code', m⟩, hrow⟩ := Option.ne_none_iff_exists'.mp hfixed
      rw [exec_of_fixedCommand hrow, s.execute_of_not_due hready _ _ fun _ _ => hslot]
    · exact congrArg Host.Outcome.next (s.execute_of_not_due hready _ _ fun _ _ => hslot)
    · exact congrArg Host.Outcome.next (s.executeUnknown_of_not_due hready fun _ _ _ h _ => hslot h)
  · obtain ⟨hready, hhead, hslot⟩ := hexecutes
    have hcontains : commandCodes.contains code = false := by
      refine Bool.eq_false_iff.mpr fun h => ?_
      rcases (commandCodes_contains_iff code).mp h with ⟨d, m, hrow⟩ | rfl
      · exact hunknown d m hrow
      · exact hwrite rfl
    have hexec : exec .badCommand s = .next s.executeUnknown := rfl
    rw [hexec, State.executeUnknown, s.after_of_ready hready, hhead]
    refine congrArg Host.Outcome.next ((if_pos ⟨hslot, hcontains⟩).trans ?_)
    exact s.answerHead_of_bad rest code p _ _ rfl
  · obtain ⟨hready, hhead, -⟩ := hexecutes
    refine congrArg Host.Outcome.next (s.executeUnknown_of_not_due hready fun c q waiting h hfalse => ?_)
    obtain ⟨⟨rfl, rfl⟩, rfl⟩ : (c = code ∧ q = p) ∧ waiting = rest := by simpa [hhead, eq_comm] using h
    exact absurd ((commandCodes_contains_iff c).mpr hknown) (by simp only [hfalse]; decide)
  · obtain ⟨hready, hhead, -⟩ := hexecutes
    refine congrArg Host.Outcome.next (s.execute_of_not_due hready _ _ fun q waiting h => ?_)
    exact absurd (congrArg (fun l => (l.headD []).headD 0) (hhead.symm.trans h)) hwrite

end Sys2Proof.Machine

/-! # Frames on the downlink (O54) -/

namespace Sys2Proof.Machine

/-! ### The judgement of a downlink frame (R154, R167) -/

/-- The integrity conditions of R154 on a frame that has ended. -/
structure SoundDownlink (f : LineFrame) : Prop where
  stopBits : f.stopBits = true
  long     : 4 ≤ f.chars.length
  bounded  : (f.chars.getD 1 0).toNat ≤ 120
  exact    : f.chars.length = 4 + (f.chars.getD 1 0).toNat
  crc      : crc16 (f.chars.take (2 + (f.chars.getD 1 0).toNat)) =
    BitVec.ofNat 16 (beNat (f.chars.drop (2 + (f.chars.getD 1 0).toNat)))

/-- What a sound frame of a kind carries (R167). -/
def downlinkOf (kind : Byte) (payload : List Byte) : Option DownlinkFrame :=
  if kind = 1 then (if payload = [] then none else some (.command payload))
  else if kind = 2 then (if payload = [] then some .pause else none)
  else if kind = 3 then (if payload = [] then some .resumeFlow else none)
  else none

/-- A frame that breaks a condition of R154 is faulty. -/
theorem parseDownlinkFrame_of_not_sound {f : LineFrame} (h : ¬ SoundDownlink f) : parseDownlinkFrame f = none := by
  refine if_neg fun hsound => h ?_
  simp only [Bool.and_eq_true, decide_eq_true_eq, beq_iff_eq] at hsound
  obtain ⟨⟨⟨⟨hstop, hlong⟩, hbounded⟩, hexact⟩, hcrc⟩ := hsound
  exact ⟨hstop, hlong, hbounded, hexact, hcrc⟩

/-- The last two bytes of a list, read as a number, are those bytes side by side. -/
theorem ofNat_beNat_drop {l : List Byte} {k : Nat} (h : l.length = k + 2) :
    BitVec.ofNat 16 (beNat (l.drop k)) = l.getD k 0 ++ l.getD (k + 1) 0 := by
  have hdrop : l.drop k = [l.getD k 0, l.getD (k + 1) 0] := by
    rw [List.drop_eq_getElem_cons (by omega), List.drop_eq_getElem_cons (by omega), List.drop_eq_nil_of_le (by omega),
      List.getD_eq_getElem _ _ (by omega), List.getD_eq_getElem _ _ (by omega)]
  rw [hdrop, beNat_pair, BitVec.ofNat_toNat, BitVec.setWidth_eq]

/-- A frame is good where its characters are kind, length, payload and the check word of those (R167). -/
structure CarriesDownlink (f : LineFrame) (kind len : Byte) (payload : List Byte) : Prop where
  stopBits : f.stopBits = true
  chars    : f.chars = kind :: len :: payload
    ++ [(crc16 (kind :: len :: payload)).extractLsb' 8 8, (crc16 (kind :: len :: payload)).extractLsb' 0 8]
  len      : len.toNat = payload.length
  bounded  : payload.length ≤ 120

theorem append_extractLsb' (w : BitVec 16) : w.extractLsb' 8 8 ++ w.extractLsb' 0 8 = w := by
  ext i hi
  simp only [BitVec.getElem_append, BitVec.getElem_extractLsb', Nat.zero_add]
  split
  · exact BitVec.getLsbD_eq_getElem hi
  · rw [Nat.add_sub_cancel' (by omega), BitVec.getLsbD_eq_getElem hi]

/-- A good frame is sound and acts by its kind. -/
theorem parseDownlinkFrame_of_carries {f : LineFrame} {kind len : Byte} {payload : List Byte}
    (h : CarriesDownlink f kind len payload) : parseDownlinkFrame f = downlinkOf kind payload := by
  obtain ⟨hstop, hchars, hlen, hbounded⟩ := h
  have hkind : f.chars.getD 0 0 = kind := by simp [hchars]
  have hsecond : f.chars.getD 1 0 = len := by simp [hchars]
  have hlength : f.chars.length = 4 + payload.length := by simp [hchars]; omega
  have hbody : f.chars.take (2 + payload.length) = kind :: len :: payload := by
    rw [hchars, List.take_left' (by simp; omega)]
  have hcheck : f.chars.drop (2 + payload.length) =
      [(crc16 (kind :: len :: payload)).extractLsb' 8 8, (crc16 (kind :: len :: payload)).extractLsb' 0 8] := by
    rw [hchars, List.drop_left' (by simp; omega)]
  have hpayload : (f.chars.drop 2).take payload.length = payload := by simp [hchars]
  have hword : BitVec.ofNat 16 (beNat [(crc16 (kind :: len :: payload)).extractLsb' 8 8,
      (crc16 (kind :: len :: payload)).extractLsb' 0 8]) = crc16 (kind :: len :: payload) := by
    rw [beNat_pair, append_extractLsb', BitVec.ofNat_toNat, BitVec.setWidth_eq]
  simp only [parseDownlinkFrame, hkind, hsecond, hlen, hlength, hbody, hcheck, hpayload, hword, hstop]
  have hall : (true && decide (4 ≤ 4 + payload.length) && decide (payload.length ≤ 120)
      && 4 + payload.length == 4 + payload.length
      && crc16 (kind :: len :: payload) == crc16 (kind :: len :: payload)) = true := by simp [hbounded]
  rw [if_pos hall]
  simp only [List.length_eq_zero_iff, downlinkOf]

theorem downlinkOf_eq_none {kind : Byte} {payload : List Byte}
    (h : kind ∉ [1#8, 2#8, 3#8] ∨ (kind = 1 ∧ payload = []) ∨ (kind ≠ 1 ∧ payload ≠ [])) : downlinkOf kind payload = none := by
  rcases h with h | ⟨rfl, rfl⟩ | ⟨hkind, hpayload⟩
  · simp only [List.mem_cons, List.not_mem_nil, or_false, not_or] at h
    obtain ⟨h1, h2, h3⟩ := h
    exact (if_neg h1).trans ((if_neg h2).trans (if_neg h3))
  · rfl
  · simp only [downlinkOf, if_neg hkind, if_neg hpayload, ite_self]

/-! ### What a frame does at an idle receiver (R155) -/

theorem State.downlinkIdle_of_idle {s : State} (h : s.link.downlink = .idle) : s.downlinkIdle = s := by
  rw [State.downlinkIdle, ← h]

theorem State.downlinkFrame_of_idle {s : State} {f : LineFrame} (h : s.link.downlink = .idle) :
    s.downlinkFrame f = (s.judgeDownlink f).downlinkIdle := by
  simp only [State.downlinkFrame, h]

theorem State.downlinkFrame_of_waiting {s : State} {f : LineFrame} (h : s.link.downlink = .waitingForIdle) :
    s.downlinkFrame f = s.downlinkIdle := by
  simp only [State.downlinkFrame, h]

/-- Each of the three rows shows the receiver a frame (log 26). -/
theorem exec_of_downlinkFrame {s : State} (hready : s.Ready) {f : LineFrame} {i : Instr}
    (h : i ∈ [Instr.command f, .pause f, .resumeFlow f]) : exec i s = .next (s.downlinkFrame f) := by
  have hafter := s.after_of_ready hready (·.downlinkFrame f)
  simp only [List.mem_cons, List.not_mem_nil, or_false] at h
  rcases h with rfl | rfl | rfl <;> exact congrArg Host.Outcome.next hafter

theorem exec_downlinkLineIdle {s : State} (hready : s.Ready) : exec .downlinkLineIdle s = .next s.downlinkIdleLine :=
  congrArg Host.Outcome.next (s.after_of_ready hready State.downlinkIdleLine)

theorem exec_watchdogExpiry_ready {s : State} (hready : s.Ready) : exec .watchdogExpiry s = .next s.takeExpiry :=
  congrArg Host.Outcome.next (s.after_of_ready hready State.takeExpiry)

/-- A faulty frame raises DOWNLINK_ERROR (R154). -/
theorem State.downlinkFrame_of_faulty {s : State} {f : LineFrame} (h : s.link.downlink = .idle)
    (hfaulty : parseDownlinkFrame f = none) : s.downlinkFrame f = s.raise .downlinkError := by
  rw [State.downlinkFrame_of_idle h, State.judgeDownlink, hfaulty]
  exact State.downlinkIdle_of_idle (by simpa using h)

/-- A command frame that finds a free place is queued, after an expiry that is due (log 5). -/
theorem State.acceptCommand_of_free {s : State} (h : s.link.downlink = .idle) (hfree : s.link.commands.length < 4)
    (payload : List Byte) : (s.acceptCommand payload).downlinkIdle = s.takeExpiry.queueCommand payload := by
  have haccepts : s.acceptCommand payload = s.takeExpiry.queueCommand payload := if_pos hfree
  rw [haccepts]
  exact State.downlinkIdle_of_idle (by simpa [State.queueCommand] using h)

theorem State.takeExpiry_of_not_due {s : State} (h : s.expiryDue = false) : s.takeExpiry = s := by
  simp [State.takeExpiry, h]

/-- Settles O54. -/
theorem downlinkFramesActByTheirKind : Obligations.DownlinkFramesActByTheirKind := by
  rintro s f kind len payload crc hready rfl good rows accepts
  have hgood (h : good) : parseDownlinkFrame f = downlinkOf kind payload := by
    obtain ⟨hstop, hchars, hlen, hbounded⟩ := h
    exact parseDownlinkFrame_of_carries ⟨hstop, hchars, hlen, hbounded⟩
  have hrow {i : Instr} (hi : i ∈ rows) : exec i s = .next (s.downlinkFrame f) := exec_of_downlinkFrame hready hi
  refine ⟨fun hidle hg hkind hpayload hfree => ?_, fun hidle hg hkind hpayload hfull => ?_,
    fun hidle hg hkind hpayload => ?_, fun hidle hg hkind hpayload => ?_, fun hidle hfaulty i hi => ?_,
    fun hwaiting i hi => ?_, fun hidle => ?_⟩
  · have hcommand : exec (.command f) s = .next (s.takeExpiry.queueCommand payload) := by
      rw [hrow (by simp [rows]), State.downlinkFrame_of_idle hidle, State.judgeDownlink, hgood hg, downlinkOf, if_pos hkind,
        if_neg hpayload]
      exact congrArg Host.Outcome.next (State.acceptCommand_of_free hidle hfree payload)
    refine ⟨fun hdue => ?_, fun hdue => ⟨s.takeExpiry, exec_watchdogExpiry_ready hready, ?_⟩⟩
    · rw [State.takeExpiry_of_not_due hdue] at hcommand
      exact hcommand
    · have hcommands : s.takeExpiry.link.commands = s.link.commands := by simp
      rw [State.queueCommand, hcommands] at hcommand
      exact hcommand
  · rw [hrow (by simp [rows]), State.downlinkFrame_of_idle hidle, State.judgeDownlink, hgood hg, downlinkOf, if_pos hkind,
      if_neg hpayload]
    refine congrArg Host.Outcome.next ?_
    have hoverflow : s.acceptCommand payload = s.raise .commandOverflow := if_neg (Nat.not_lt.mpr hfull)
    refine (congrArg State.downlinkIdle hoverflow).trans (State.downlinkIdle_of_idle ?_)
    simpa using hidle
  · rw [hrow (by simp [rows]), State.downlinkFrame_of_idle hidle, State.judgeDownlink, hgood hg, hkind, hpayload]
    exact congrArg Host.Outcome.next (State.downlinkIdle_of_idle hidle)
  · rw [hrow (by simp [rows]), State.downlinkFrame_of_idle hidle, State.judgeDownlink, hgood hg, hkind, hpayload]
    exact congrArg Host.Outcome.next (State.downlinkIdle_of_idle hidle)
  · have hnone : parseDownlinkFrame f = none := by
      by_cases hg : good ∧ (kind ∉ [1#8, 2#8, 3#8] ∨ (kind = 1 ∧ payload = []) ∨ (kind ≠ 1 ∧ payload ≠ []))
      · rw [hgood hg.1, downlinkOf_eq_none hg.2]
      · refine parseDownlinkFrame_of_not_sound fun ⟨hstop, hlong, hbounded, hexact, hcrc⟩ => ?_
        have hlast := ofNat_beNat_drop (l := f.chars) (k := 2 + (f.chars.getD 1 0).toNat) (by omega)
        have hcut : f.chars.length - 2 = 2 + (f.chars.getD 1 0).toNat := by omega
        have hend : f.chars.length - 1 = 2 + (f.chars.getD 1 0).toNat + 1 := by omega
        rw [hcut, hend, ← hlast] at hfaulty
        rcases hfaulty with h | h | h | h | h | h
        · simp [hstop] at h
        · omega
        · omega
        · omega
        · exact h hcrc
        · exact hg h
    rw [hrow hi, State.downlinkFrame_of_faulty hidle hnone]
  · rcases List.mem_cons.mp hi with rfl | hi
    · rw [exec_downlinkLineIdle hready]
      simp only [State.downlinkIdleLine, hwaiting, State.downlinkIdle]
    · rw [hrow hi, State.downlinkFrame_of_waiting hwaiting]
      rfl
  · rw [exec_downlinkLineIdle hready]
    simp only [State.downlinkIdleLine, hidle]

end Sys2Proof.Machine

/-! # The upstream scheduler and the bytes of its frames (O55) -/

namespace Sys2Proof.Machine

/-! ### The choice of a source (R160, R162) -/

theorem State.eligible_response_iff (s : State) :
    s.eligible .response = true ↔ s.link.responseInProgress ≠ none ∨ s.link.responses ≠ [] := by
  simp [State.eligible, Option.isSome_iff_ne_none]

theorem State.eligible_report_iff (s : State) :
    s.eligible .report = true ↔ s.link.paused = false ∧ (s.link.reportInProgress ≠ none ∨ s.link.reports ≠ []) := by
  simp [State.eligible, Option.isSome_iff_ne_none]

theorem State.eligible_capture_iff (s : State) :
    s.eligible .capture = true ↔ s.link.paused = false ∧ s.capture.queue ≠ [] := by
  simp [State.eligible]

theorem exec_schedulerChoice {s : State} (hready : s.Ready) : exec .schedulerChoice s = .next s.choose :=
  congrArg Host.Outcome.next (s.after_of_ready hready State.choose)

/-- The first eligible source of the rotation order is served and moves to the end (R162). -/
theorem State.choose_of_first {s : State} {x : Source} {before later : List Source} (hurgent : s.link.urgent = none)
    (hrotation : s.link.rotation = before ++ x :: later) (hx : s.eligible x = true)
    (hbefore : ∀ y ∈ before, s.eligible y = false) : s.choose = (s.serve x).rotate x := by
  have hfirst : s.link.rotation.find? s.eligible = some x := by
    rw [hrotation, List.find?_append, List.find?_eq_none.mpr fun y hy => by simp [hbefore y hy]]
    simp [hx]
  simp only [State.choose, hurgent, hfirst]

theorem erase_first {x : Source} {before later : List Source} (h : x ∉ before) :
    (before ++ x :: later).erase x = before ++ later := by
  rw [List.erase_append_right _ h, List.erase_cons_head]

/-- Where nothing waits no frame is begun (R162). -/
theorem State.choose_of_nothing {s : State} (hurgent : s.link.urgent = none)
    (hnone : ∀ y ∈ s.link.rotation, s.eligible y = false) : s.choose = s.nothingEligible := by
  have hfirst : s.link.rotation.find? s.eligible = none := List.find?_eq_none.mpr fun y hy => by simp [hnone y hy]
  simp only [State.choose, hurgent, hfirst]

theorem State.choose_of_notice {s : State} {n : Notice} (hurgent : s.link.urgent = some n) : s.choose = s.sendNotice n := by
  simp only [State.choose, hurgent]

theorem State.serve_response {s : State} {r : Response} {waiting : List Response}
    (h : (s.link.responseInProgress = some r ∧ waiting = s.link.responses)
      ∨ (s.link.responseInProgress = none ∧ s.link.responses = r :: waiting)) :
    s.serve .response = s.sendResponse r waiting := by
  rcases h with ⟨hprogress, rfl⟩ | ⟨hprogress, hqueue⟩
  · simp only [State.serve, hprogress]
  · simp only [State.serve, hprogress, hqueue]

/-- A response that fits into one frame leaves nothing (R159). -/
theorem State.sendResponse_of_fits {s : State} {r : Response} (h : r.data.length ≤ 118) (waiting : List Response) :
    s.sendResponse r waiting =
      ({ s with link := { s.link with responses := waiting, responseInProgress := none } } : State).beginFrame .response false
        (r.code :: statusCode r.status :: r.data) := by
  have hrest : r.rest = none := if_pos h
  have htake : r.data.take responseChunk = r.data := List.take_of_length_le h
  rw [State.sendResponse, hrest, htake]
  rfl

theorem State.sendResponse_of_long {s : State} {r : Response} (h : 118 < r.data.length) (waiting : List Response) :
    s.sendResponse r waiting =
      ({ s with link := { s.link with
          responses := waiting, responseInProgress := some { r with data := r.data.drop 118 } } } : State).beginFrame
        .response true (r.code :: statusCode r.status :: r.data.take 118) := by
  have hrest : r.rest = some { r with data := r.data.drop 118 } := if_neg (Nat.not_le.mpr h)
  rw [State.sendResponse, hrest]
  rfl

theorem State.serve_report_first {s : State} {r : Summary} {waiting : List Summary}
    (hprogress : s.link.reportInProgress = none) (hqueue : s.link.reports = r :: waiting) :
    s.serve .report = s.sendReportFirst r waiting := by
  simp only [State.serve, hprogress, hqueue]

theorem State.serve_report_second {s : State} {r : Summary} (hprogress : s.link.reportInProgress = some r) :
    s.serve .report = s.sendReportSecond r := by
  simp only [State.serve, hprogress]

theorem State.serve_capture {s : State} {r : CaptureRecord} {waiting : List CaptureRecord}
    (hqueue : s.capture.queue = r :: waiting) : s.serve .capture = s.sendCapture r waiting := by
  simp only [State.serve, hqueue]

/-! ### The bytes of a frame (R167) -/

/-- A word travels high byte first. -/
theorem beBytes_word (w : BitVec 16) : beBytes 2 w.toNat = [w.extractLsb' 8 8, w.extractLsb' 0 8] := by
  have hhigh : BitVec.ofNat 8 (w.toNat / 256) = w.extractLsb' 8 8 :=
    BitVec.eq_of_toNat_eq (by simp [Nat.shiftRight_eq_div_pow])
  have hlow : BitVec.ofNat 8 w.toNat = w.extractLsb' 0 8 := BitVec.eq_of_toNat_eq (by simp)
  simp only [beBytes, List.nil_append, List.cons_append, hhigh, hlow]

/-- The header byte's number: a kind below 8, two marks, an engine code below 4 and the alert mark. -/
def headerNumber (kind : Nat) (more paused : Bool) (engine : Nat) (alert : Bool) : Nat :=
  kind + (if more then 8 else 0) + (if paused then 16 else 0) + engine * 32 + (if alert then 128 else 0)

/-- The fields of a header byte are read back from their bits (R167). -/
theorem headerNumber_fields {kind engine : Nat} (hkind : kind < 8) (hengine : engine < 4) (more paused alert : Bool) :
    let b := BitVec.ofNat 8 (headerNumber kind more paused engine alert)
    b.extractLsb' 0 3 = BitVec.ofNat 3 kind ∧ b.getLsbD 3 = more ∧ b.getLsbD 4 = paused
      ∧ b.extractLsb' 5 2 = BitVec.ofNat 2 engine ∧ b.getLsbD 7 = alert := by
  have hall : ∀ kind : Fin 8, ∀ engine : Fin 4, ∀ more paused alert : Bool,
      let b := BitVec.ofNat 8 (headerNumber kind.val more paused engine.val alert)
      b.extractLsb' 0 3 = BitVec.ofNat 3 kind.val ∧ b.getLsbD 3 = more ∧ b.getLsbD 4 = paused
        ∧ b.extractLsb' 5 2 = BitVec.ofNat 2 engine.val ∧ b.getLsbD 7 = alert := by decide
  exact hall ⟨kind, hkind⟩ ⟨engine, hengine⟩ more paused alert

theorem upKindNumber_lt (k : UpKind) : upKindNumber k < 8 := by cases k <;> decide

theorem engineCode_lt (e : EngineState) : (engineCode e).toNat < 4 := by cases e <;> decide

theorem UpFrame.header_eq (f : UpFrame) :
    f.header = BitVec.ofNat 8 (headerNumber (upKindNumber f.kind) f.more f.paused (engineCode f.engine).toNat f.alert) := rfl

/-- What a frame carries on the line: its body and the check word of it. -/
theorem UpFrame.bytes_take (f : UpFrame) :
    f.bytes.take (f.payload.length + 2) = f.header :: BitVec.ofNat 8 f.payload.length :: f.payload :=
  List.take_left' rfl

/-! ### The bytes of a capture record (R170) -/

/-- Bit `k` of a byte that is the sum of six marks is the mark `k`. -/
theorem marks_getLsbD : ∀ b0 b1 b2 b3 b4 b5 : Bool, ∀ k < 8,
    (BitVec.ofNat 8 ((if b0 then 1 else 0) + (if b1 then 2 else 0) + (if b2 then 4 else 0) + (if b3 then 8 else 0)
      + (if b4 then 16 else 0) + (if b5 then 32 else 0))).getLsbD k = [b0, b1, b2, b3, b4, b5].getD k false := by decide

theorem absentMarks_getLsbD (c : CaptureRecord) {k : Nat} (hk : k < 8) :
    (absentMarks c).getLsbD k =
      ([c.voltage.a, c.current.a, c.voltage.b, c.current.b, c.voltage.c, c.current.c].map Option.isNone).getD k false :=
  marks_getLsbD _ _ _ _ _ _ k hk

/-! ### The bytes of a summary (R170) -/

theorem Summary.bytes_eq (w : Summary) :
    let phases := [Phase.a, .b, .c]
    w.bytes =
      beBytes 4 w.sequence ++ [causeCode w.cause, BitVec.ofNat 8 w.band.val] ++ beBytes 2 w.day ++ beBytes 2 w.minute
        ++ beBytes 3 w.count ++ [netModeCode w.mode] ++ beBytes 7 w.q ++ [markByte w.intervalEnd]
        ++ beBytes 8 w.aImp ++ beBytes 8 w.aExp ++ beSigned 8 w.discard
        ++ (phases.map (fun x => let p := w.sums.get x
            beSigned 8 p.energy ++ beBytes 8 p.grossImp ++ beBytes 8 p.grossExp ++ beSigned 8 p.squares
              ++ beBytes 3 p.sets)).flatten
        ++ phases.map (fun x => directionCode (w.direction.get x))
        ++ phases.map (fun x => markByte (w.reversal.get x))
        ++ phases.map (fun x => lowCode (w.low.get x))
        ++ [exportCode w.exportState, BitVec.ofNat 8 w.consecutive, checkCode w.check] := by
  simp [Summary.bytes, PhaseSums.bytes, PerPhase.toList, PerPhase.get, bandByte, beBytes_one]

theorem Summary.bytes_length (w : Summary) : w.bytes.length = 163 := by
  simp [Summary.bytes, PhaseSums.bytes, PerPhase.toList, beSigned]

/-- Settles O55. -/
theorem schedulerServesTheFirstEligibleSource : Obligations.SchedulerServesTheFirstEligibleSource := by
  intro s x before later hready link eligible begins chosen turned
  have heligible (y : Source) : s.eligible y = true ↔ eligible y := by
    cases y with
    | response => exact s.eligible_response_iff
    | report => exact s.eligible_report_iff
    | capture => exact s.eligible_capture_iff
  have hnot {y : Source} (h : ¬ eligible y) : s.eligible y = false := Bool.eq_false_iff.mpr (mt (heligible y).mp h)
  have hserved (h : chosen) {y : Source} (hy : x = y) {t : State} (hserve : s.serve y = t)
      (hkept : t.link.rotation = s.link.rotation) :
      exec .schedulerChoice s = .next { t with link := { t.link with rotation := before ++ later ++ [x] } } := by
    obtain ⟨hurgent, hrotation, hx, hbefore⟩ := h
    have hrotation' : s.link.rotation = before ++ x :: later := hrotation
    have hmem : x ∉ before := fun h => hbefore x h hx
    rw [exec_schedulerChoice hready,
      State.choose_of_first hurgent hrotation ((heligible x).mpr hx) fun y hy => hnot (hbefore y hy), hy, hserve, ← hy,
      State.rotate, hkept, hrotation', erase_first hmem]
  refine ⟨fun n hurgent => ?_, fun h hx r waiting hr => ⟨fun hfits => ?_, fun hlong => ?_⟩,
    fun h hx r => ⟨fun waiting hprogress hqueue => ?_, fun hprogress => ?_⟩, fun h hx r waiting hqueue => ?_,
    fun hurgent hnone => ?_, fun frame => ?_, fun n => ?_, fun c => ?_, fun w => ?_, rfl, rfl, rfl⟩
  · exact (exec_schedulerChoice hready).trans (congrArg Host.Outcome.next (State.choose_of_notice hurgent))
  · exact hserved h hx ((State.serve_response hr).trans (State.sendResponse_of_fits hfits waiting)) rfl
  · exact hserved h hx ((State.serve_response hr).trans (State.sendResponse_of_long hlong waiting)) rfl
  · exact hserved h hx (State.serve_report_first hprogress hqueue) rfl
  · exact hserved h hx (State.serve_report_second hprogress) rfl
  · exact hserved h hx (State.serve_capture hqueue) rfl
  · exact (exec_schedulerChoice hready).trans
      (congrArg Host.Outcome.next (State.choose_of_nothing hurgent fun y hy => hnot (hnone y hy)))
  · intro body crc
    have hbody : body = frame.header :: BitVec.ofNat 8 frame.payload.length :: frame.payload := frame.bytes_take
    obtain ⟨hkind, hmore, hpaused, hengine, halert⟩ := headerNumber_fields (upKindNumber_lt frame.kind)
      (engineCode_lt frame.engine) frame.more frame.paused frame.alert
    rw [← frame.header_eq] at hkind hmore hpaused hengine halert
    have hfirst : body.getD 0 0 = frame.header := by rw [hbody]; rfl
    rw [hfirst]
    refine ⟨?_, by rw [hbody]; rfl, by rw [hbody]; rfl, hkind.trans ?_, hmore, hpaused, hengine.trans ?_, halert⟩
    · have hcrc := beBytes_word crc
      simp only [crc, hbody] at hcrc ⊢
      rw [UpFrame.bytes, hcrc]
    · cases frame.kind <;> rfl
    · cases frame.engine <;> rfl
  · simp [Notice.bytes, flagSetBytes_eq, beBytes_one]
  · intro channels
    refine ⟨absentMarks c, fun k hk => ?_, absentMarks_getLsbD c (by decide), absentMarks_getLsbD c (by decide), ?_⟩
    · rw [absentMarks_getLsbD c (by omega)]
      have hlength : k < channels.length := hk
      rw [List.getD_eq_getElem _ _ (by simpa using hk), List.getD_eq_getElem _ _ hlength, List.getElem_map]
    · simp [CaptureRecord.bytes, channels]
  · exact ⟨w.bytes_length, w.bytes_eq⟩

end Sys2Proof.Machine

/-! # What an operation leaves of the fault monitor: latched marks, mask and watchdog -/

namespace Sys2Proof.Machine

/-- From `s` to `t` the latched mark `k`, the mask and the watchdog stay as they are. -/
structure State.Spares (s t : State) (k : Nat) : Prop where
  latched : t.monitor.latched.getLsbD k = s.monitor.latched.getLsbD k
  mask : t.monitor.mask = s.monitor.mask
  watchdog : (t.monitor.watchdogRunning, t.monitor.watchdogCount, t.monitor.expired)
    = (s.monitor.watchdogRunning, s.monitor.watchdogCount, s.monitor.expired)

namespace State.Spares

theorem of_monitor {s t : State} (h : t.monitor = s.monitor) (k : Nat) : s.Spares t k := by
  constructor <;> rw [h]

theorem trans {s t u : State} {k : Nat} (h : s.Spares t k) (h' : t.Spares u k) : s.Spares u k :=
  ⟨h'.latched.trans h.latched, h'.mask.trans h.mask, h'.watchdog.trans h.watchdog⟩

end State.Spares

theorem State.raiseIf_latched_getLsbD (s : State) (b : Bool) (f : Flag) (k : Nat) :
    (s.raiseIf b f).monitor.latched.getLsbD k = (s.monitor.latched.getLsbD k || (b && decide (k = f.index))) := by
  cases b
  · simp [State.raiseIf]
  · have hlatched : (s.raiseIf true f).monitor.latched = s.monitor.latched ||| f.bit := rfl
    rw [hlatched, BitVec.getLsbD_or, f.getLsbD_bit, Bool.true_and]

theorem State.raiseIf_spares (s : State) (b : Bool) {f : Flag} {k : Nat} (hk : k ≠ f.index) : s.Spares (s.raiseIf b f) k := by
  refine ⟨?_, by cases b <;> rfl, by cases b <;> rfl⟩
  rw [State.raiseIf_latched_getLsbD, decide_eq_false hk, Bool.and_false, Bool.or_false]

theorem State.raiseIf_conditions (s : State) (b : Bool) (f : Flag) :
    (s.raiseIf b f).monitor.conditions = s.monitor.conditions := by cases b <;> rfl

/-- The mask and the watchdog know nothing of a raise. -/
theorem State.raiseIf_mask (s : State) (b : Bool) (f : Flag) : (s.raiseIf b f).monitor.mask = s.monitor.mask := by
  cases b <;> rfl

theorem State.report_spares (s : State) (v : Bool) {f : Flag} {k : Nat} (hk : k ≠ f.index) : s.Spares (s.report f v) k := by
  have hset : s.Spares { s with monitor := s.monitor.setCondition f v } k := ⟨rfl, rfl, rfl⟩
  exact hset.trans (State.raiseIf_spares _ _ hk)

/-- A lane's own conditions stand below 24. -/
theorem State.reportLane_spares (s : State) (x : Phase) {k : Nat} (hk : 24 ≤ k) : s.Spares (s.reportLane x) k := by
  have hlow : ∀ f ∈ laneFlags x, k ≠ f.index := by
    intro f hf
    have hlane : f.index < 24 := by cases x <;> (revert f; decide)
    omega
  have hlost := s.report_spares (s.lanes.get x).state.isLost (hlow (.laneLost x) (by simp [laneFlags]))
  exact ((hlost.trans (State.report_spares _ _ (hlow (.laneSuspect x) (by simp [laneFlags])))).trans
    (State.report_spares _ _ (hlow (.vStuck x) (by simp [laneFlags])))).trans
    (State.report_spares _ _ (hlow (.iStuck x) (by simp [laneFlags])))

/-- The netting engine's own conditions stand below 29. -/
theorem State.reportEngine_spares (s : State) {k : Nat} (hk : 29 ≤ k) : s.Spares s.reportEngine k := by
  have hlow : ∀ f ∈ engineFlags, k ≠ f.index := by
    intro f hf
    have hengine : f.index < 29 := by revert f; decide
    omega
  have ha := s.report_spares s.engine.lowVoltage.a (hlow (.lowVoltage .a) (by simp [engineFlags]))
  exact (((((ha.trans (State.report_spares _ _ (hlow (.lowVoltage .b) (by simp [engineFlags])))).trans
    (State.report_spares _ _ (hlow (.lowVoltage .c) (by simp [engineFlags])))).trans
    (State.report_spares _ _ (hlow .exportWarn (by simp [engineFlags])))).trans
    (State.report_spares _ _ (hlow .exportTrip (by simp [engineFlags])))).trans
    (State.report_spares _ _ (hlow .unmetered (by simp [engineFlags])))).trans
    (State.report_spares _ _ (hlow .failsafe (by simp [engineFlags])))

theorem State.changeLane_spares (s : State) (x : Phase) (new : Lane) {k : Nat} (hk : 24 ≤ k) :
    s.Spares (s.changeLane x new) k := by
  unfold State.changeLane
  dsimp only
  refine State.Spares.trans (State.Spares.of_monitor ?_ k) (State.reportLane_spares _ x hk)
  rfl

theorem State.creditBank_spares (s : State) (q : Nat) (b : Band) (shares : Flows) (gross : PerPhase Flows) (mark : Bool)
    {k : Nat} (hk : k ≠ 30) : s.Spares (s.creditBank q b shares gross mark) k := by
  have hraised := s.raiseIf_spares (s.bank.accounts.creditAll q b shares gross).2.2 (f := .energyRollover) hk
  have hmonitor := s.creditBank_monitor q b shares gross mark
  exact hraised.trans (State.Spares.of_monitor hmonitor k)

/-- A credit step latches ENERGY_ROLLOVER where a register passes its top (R84). -/
theorem State.creditBank_rollover (s : State) (q : Nat) (b : Band) (shares : Flows) (gross : PerPhase Flows) (mark : Bool) :
    (s.creditBank q b shares gross mark).monitor.latched.getLsbD 30 = true ↔
      s.monitor.latched.getLsbD 30 = true ∨ s.bank.accounts.Wraps q b shares gross := by
  rw [s.creditBank_monitor, State.raiseIf_latched_getLsbD, decide_eq_true (by rfl), Bool.and_true, Bool.or_eq_true,
    Accounts.creditAll_wraps_iff]

theorem State.creditBank_conditions (s : State) (q : Nat) (b : Band) (shares : Flows) (gross : PerPhase Flows) (mark : Bool) :
    (s.creditBank q b shares gross mark).monitor.conditions = s.monitor.conditions := by
  rw [s.creditBank_monitor, State.raiseIf_conditions]

/-! ### The demand unit -/

theorem State.closeInterval_spares (s : State) (b : Band) {k : Nat} (hk : k ≠ 33) : s.Spares (s.closeInterval b) k := by
  unfold State.closeInterval
  dsimp only
  split
  · exact .of_monitor (by rfl) k
  · exact .of_monitor (by rfl) k
  · split
    · exact .of_monitor (by rfl) k
    · exact (State.Spares.of_monitor (by rfl) k).trans (State.raiseIf_spares _ true hk)
  · exact .of_monitor (by rfl) k

theorem State.takeCredit_spares (s : State) {k : Nat} (hk : k ≠ 33) : s.Spares s.takeCredit k := by
  unfold State.takeCredit
  split
  · exact .of_monitor (by rfl) k
  · unfold State.acceptCredit
    split
    · exact .of_monitor (by rfl) k
    · exact .of_monitor (by rfl) k
    · exact .of_monitor (by rfl) k
    · dsimp only
      split
      · exact (State.Spares.of_monitor (by rfl) k).trans (State.closeInterval_spares _ _ hk)
      · exact .of_monitor (by rfl) k

theorem State.takeCredits_spares (n : Nat) (s : State) {k : Nat} (hk : k ≠ 33) : s.Spares (State.takeCredits n s) k := by
  induction n generalizing s with
  | zero => exact .of_monitor (by rfl) k
  | succ n ih => exact (s.takeCredit_spares hk).trans (ih s.takeCredit)

/-- The state in which the demand unit takes credits before an install: the table before it is in force (R123, log 15). -/
def State.underTable (s : State) (old : Option Meter) : State :=
  { s with tables := { s.tables with meterActive := old }, freeChoices := s.freeChoices + 1 }

theorem State.creditsBeforeInstall_eq (s : State) (old : Option Meter) :
    s.creditsBeforeInstall old =
      { State.takeCredits (min (Config.creditsBeforeInstall s.freeChoices) s.credits.length) (s.underTable old) with
        tables := s.tables } := rfl

theorem State.creditsBeforeInstall_spares (s : State) (old : Option Meter) {k : Nat} (hk : k ≠ 33) :
    s.Spares (s.creditsBeforeInstall old) k := by
  obtain ⟨hlatched, hmask, hwatchdog⟩ := State.takeCredits_spares
    (min (Config.creditsBeforeInstall s.freeChoices) s.credits.length) (s.underTable old) hk
  exact ⟨hlatched, hmask, hwatchdog⟩

theorem State.installAtDemand_spares (s : State) (old : Option Meter) (new : Meter) {k : Nat} (hk : k ≠ 33) :
    s.Spares (s.installAtDemand old new) k := by
  unfold State.installAtDemand
  split
  · exact (s.creditsBeforeInstall_spares old hk).trans (.of_monitor (by simp) k)
  · exact .of_monitor (by rfl) k

/-! ### An install at the lanes -/

theorem State.installAtLane_spares (s : State) (was restart : Bool) (x : Phase) {k : Nat} (hk : 24 ≤ k) :
    s.Spares (s.installAtLane was restart x) k := by
  unfold State.installAtLane
  dsimp only
  have hended (b : Bool) : s.Spares (if b then s.endLaneTest x else s) k := by
    refine .of_monitor ?_ k
    cases b
    · rfl
    · simp only [if_true, State.endLaneTest]
      split <;> rfl
  exact (hended _).trans (State.changeLane_spares _ x _ hk)

end Sys2Proof.Machine

/-! # The close of a window (R67) -/

namespace Sys2Proof.Machine

/-! ### The report queue (R78, R161) -/

theorem State.queueReport_spares (s : State) (r : Summary) {k : Nat} (hk : k ≠ 36) : s.Spares (s.queueReport r) k := by
  unfold State.queueReport
  split
  · exact .of_monitor (by rfl) k
  · exact (State.Spares.of_monitor (by rfl) k).trans (State.raiseIf_spares _ true hk)

theorem State.queueReport_conditions (s : State) (r : Summary) :
    (s.queueReport r).monitor.conditions = s.monitor.conditions := by
  unfold State.queueReport
  split <;> rfl

theorem State.queueReport_reports (s : State) (r : Summary) :
    (s.queueReport r).link.reports =
      (if s.link.reports.length < 8 then s.link.reports else s.link.reports.drop 1) ++ [r] := by
  unfold State.queueReport
  by_cases hroom : s.link.reports.length < Config.reportDepth
  · rw [if_pos hroom, if_pos (by exact hroom)]
  · rw [if_neg hroom, if_neg (by exact hroom)]
    simp only [State.raise_frame]

theorem State.queueReport_dropped (s : State) (r : Summary) :
    (s.queueReport r).monitor.latched.getLsbD 36 = true ↔ s.monitor.latched.getLsbD 36 = true ∨ 8 ≤ s.link.reports.length := by
  unfold State.queueReport
  by_cases hroom : s.link.reports.length < Config.reportDepth
  · rw [if_pos hroom]
    have hfree : ¬ 8 ≤ s.link.reports.length := Nat.not_le.mpr hroom
    simp only [hfree, or_false]
  · rw [if_neg hroom]
    have hfull : 8 ≤ s.link.reports.length := Nat.not_lt.mp hroom
    have hraised := State.raiseIf_latched_getLsbD
      { s with link := { s.link with reports := s.link.reports.drop 1 ++ [r] } } true .reportDropped 36
    exact iff_of_true (hraised.trans (Bool.or_true _)) (.inr hfull)

/-! ### The reports of the netting engine -/

/-- The engine's conditions are its own after its report (R74, R76). -/
theorem State.reportEngine_names (s : State) :
    (∀ x, FlagSet.names s.reportEngine.monitor.conditions (.lowVoltage x) = s.engine.lowVoltage.get x)
      ∧ FlagSet.names s.reportEngine.monitor.conditions .exportWarn = s.engine.exportState.warns
      ∧ FlagSet.names s.reportEngine.monitor.conditions .exportTrip = s.engine.exportState.trips := by
  refine ⟨fun x => ?_, ?_, ?_⟩
  · cases x <;> simp [State.reportEngine, State.names_report, Flag.index, phaseNumber, PerPhase.get]
  · simp [State.reportEngine, State.names_report, Flag.index]
  · simp [State.reportEngine, State.names_report, Flag.index]

/-! ### Stages 1 to 7 -/

/-- The stages 1 to 6 of a close: the summary, the engine's own counts, its reports and the credit (R67). -/
def State.credited (s : State) (w : Window) (o : Opening) (cause : CloseCause) : State :=
  let r := s.engine.summarize w o cause
  (({ s with engine := s.engine.record r } : State).reportEngine).creditBank r.q r.band ⟨r.aImp, r.aExp⟩ r.grossShares
    r.intervalEnd

/-- The state with what stage 6 leaves at the aligner (R66). -/
def State.withCloseMarks (s : State) (r : Summary) : State :=
  { s with aligner := { s.aligner with
      windowClosed := true
      directionReversed := s.aligner.directionReversed || r.reversal.a || r.reversal.b || r.reversal.c } }

section Stages

variable (s : State) (w : Window) (o : Opening) (cause : CloseCause)

theorem State.closeStages_eq : s.closeStages w o cause =
    (if o.meter.reports = 1 then (s.credited w o cause).queueReport (s.engine.summarize w o cause)
      else s.credited w o cause).withCloseMarks (s.engine.summarize w o cause) := rfl

theorem State.credited_spares {k : Nat} (hk : 29 ≤ k) (hother : k ≠ 30) : s.Spares (s.credited w o cause) k :=
  ((State.Spares.of_monitor (by rfl) k).trans (State.reportEngine_spares _ hk)).trans (State.creditBank_spares _ _ _ _ _ _ hother)

/-- A close keeps the latched marks above the engine's own but those of the rollover and of a dropped report. -/
theorem State.closeStages_spares {k : Nat} (hk : 29 ≤ k) (hrollover : k ≠ 30) (hdropped : k ≠ 36) :
    s.Spares (s.closeStages w o cause) k := by
  rw [State.closeStages_eq]
  have hcredited := s.credited_spares w o cause hk hrollover
  split
  · exact (hcredited.trans (State.queueReport_spares _ _ hdropped)).trans (.of_monitor (by rfl) k)
  · exact hcredited.trans (.of_monitor (by rfl) k)

/-- The engine's part of the close latches nothing that the credit latches. -/
theorem State.credited_rollover : (s.credited w o cause).monitor.latched.getLsbD 30 = true ↔
    s.monitor.latched.getLsbD 30 = true ∨ s.bank.accounts.Wraps o.meter.q w.band
      ⟨(s.engine.summarize w o cause).aImp, (s.engine.summarize w o cause).aExp⟩
      (w.sums.map (fun p => ⟨p.grossImp, p.grossExp⟩)) := by
  have hreported := State.reportEngine_spares ({ s with engine := s.engine.record (s.engine.summarize w o cause) } : State)
    (k := 30) (by decide)
  have hcredit := State.creditBank_rollover
    (({ s with engine := s.engine.record (s.engine.summarize w o cause) } : State).reportEngine)
    o.meter.q w.band ⟨(s.engine.summarize w o cause).aImp, (s.engine.summarize w o cause).aExp⟩
    (s.engine.summarize w o cause).grossShares (s.engine.summarize w o cause).intervalEnd
  rw [hreported.latched] at hcredit
  simp only [State.reportEngine_frame] at hcredit
  exact hcredit

theorem State.closeStages_rollover : (s.closeStages w o cause).monitor.latched.getLsbD 30 = true ↔
    s.monitor.latched.getLsbD 30 = true ∨ s.bank.accounts.Wraps o.meter.q w.band
      ⟨(s.engine.summarize w o cause).aImp, (s.engine.summarize w o cause).aExp⟩
      (w.sums.map (fun p => ⟨p.grossImp, p.grossExp⟩)) := by
  rw [← s.credited_rollover w o cause, State.closeStages_eq]
  split
  · have hqueued := (s.credited w o cause).queueReport_spares (s.engine.summarize w o cause) (k := 30) (by decide)
    exact iff_of_eq (congrArg (· = true) hqueued.latched)
  · rfl

theorem State.credited_reports : (s.credited w o cause).link.reports = s.link.reports := by
  simp [State.credited]

theorem State.closeStages_reports : (s.closeStages w o cause).link.reports =
    if o.meter.reports = 1 then (if s.link.reports.length < 8 then s.link.reports else s.link.reports.drop 1)
      ++ [s.engine.summarize w o cause] else s.link.reports := by
  rw [State.closeStages_eq]
  split
  · exact (State.queueReport_reports _ _).trans (by rw [State.credited_reports])
  · exact s.credited_reports w o cause

theorem State.closeStages_dropped : (s.closeStages w o cause).monitor.latched.getLsbD 36 = true ↔
    s.monitor.latched.getLsbD 36 = true ∨ (o.meter.reports = 1 ∧ 8 ≤ s.link.reports.length) := by
  have hcredited := s.credited_spares w o cause (k := 36) (by decide) (by decide)
  rw [State.closeStages_eq]
  split
  · rename_i hreports
    have hqueued := (s.credited w o cause).queueReport_dropped (s.engine.summarize w o cause)
    rw [hcredited.latched, State.credited_reports] at hqueued
    exact hqueued.trans (by simp only [hreports, true_and])
  · rename_i hreports
    refine (iff_of_eq (congrArg (· = true) hcredited.latched)).trans ?_
    simp only [hreports, false_and, or_false]

theorem State.closeStages_conditions : (s.closeStages w o cause).monitor.conditions =
    (({ s with engine := s.engine.record (s.engine.summarize w o cause) } : State).reportEngine).monitor.conditions := by
  have hcredit : (s.credited w o cause).monitor.conditions =
      (({ s with engine := s.engine.record (s.engine.summarize w o cause) } : State).reportEngine).monitor.conditions :=
    State.creditBank_conditions _ _ _ _ _ _
  rw [State.closeStages_eq, ← hcredit]
  split
  · exact State.queueReport_conditions _ _
  · rfl

theorem State.closeStages_credits : (s.closeStages w o cause).credits = s.credits ++
    [{ quanta := ⟨(s.bank.accounts.residue.imp + (s.engine.summarize w o cause).aImp) / o.meter.q,
                  (s.bank.accounts.residue.exp + (s.engine.summarize w o cause).aExp) / o.meter.q⟩
       band := w.band, intervalEnd := decide (cause = .interval) }] := by
  have hcredited : (s.credited w o cause).credits = s.credits ++
      [{ quanta := ⟨(s.bank.accounts.residue.imp + (s.engine.summarize w o cause).aImp) / o.meter.q,
                    (s.bank.accounts.residue.exp + (s.engine.summarize w o cause).aExp) / o.meter.q⟩
         band := w.band, intervalEnd := decide (cause = .interval) }] := by
    refine (State.creditBank_credits _ _ _ _ _ _).trans ?_
    simp only [State.reportEngine_frame]
    rfl
  rw [← hcredited, State.closeStages_eq]
  split <;> simp [State.withCloseMarks]

theorem State.closeStages_aligner : (s.closeStages w o cause).aligner =
    { s.aligner with
      windowClosed := true
      directionReversed := s.aligner.directionReversed || (s.engine.summarize w o cause).reversal.a
        || (s.engine.summarize w o cause).reversal.b || (s.engine.summarize w o cause).reversal.c } := by
  have hcredited : (s.credited w o cause).aligner = s.aligner := by simp [State.credited]
  rw [State.closeStages_eq]
  split <;> simp [State.withCloseMarks, hcredited]

end Stages

/-! ### Directions and the low-voltage judgement (R73, R74) -/

/-- A direction at its three outcomes: no energy above the creep, IMPORT, EXPORT (R73). -/
theorem directionOf_cases (creep : Nat) (e : Int) (last : Option Flow) :
    let d := directionOf creep e
    let judged := (d, lastAfter last d, reverses last d)
    ((e.natAbs < creep ∨ e = 0) → judged = (.idle, last, false))
      ∧ (creep ≤ e.natAbs → 0 < e → judged = (.imports, some .imports, decide (last = some .exports)))
      ∧ (creep ≤ e.natAbs → e < 0 → judged = (.exports, some .exports, decide (last = some .imports))) := by
  refine ⟨fun h => ?_, fun hcreep hpos => ?_, fun hcreep hneg => ?_⟩
  · have hidle : directionOf creep e = .idle := if_pos h
    rw [hidle]
    cases last <;> rfl
  · have himports : directionOf creep e = .imports := (if_neg (by omega)).trans (if_pos hpos)
    rw [himports]
    cases last with
    | none => rfl
    | some f => cases f <;> rfl
  · have hexports : directionOf creep e = .exports := (if_neg (by omega)).trans (if_neg (by omega))
    rw [hexports]
    cases last with
    | none => rfl
    | some f => cases f <;> rfl

/-- What the engine records of a phase's direction is its judgement (R73). -/
theorem Engine.record_direction (e : Engine) (w : Window) (o : Opening) (cause : CloseCause) (x : Phase) :
    let r := e.summarize w o cause
    let d := directionOf (o.meter.creep * w.count) (w.sums.get x).energy
    (r.direction.get x, (e.record r).lastDirection.get x, r.reversal.get x)
      = (d, lastAfter (e.lastDirection.get x) d, reverses (e.lastDirection.get x) d) := by
  cases x <;> rfl

theorem Engine.record_reversals (e : Engine) (w : Window) (o : Opening) (cause : CloseCause) (x : Phase) :
    (e.record (e.summarize w o cause)).reversals.get x =
      if (e.summarize w o cause).reversal.get x then min (e.reversals.get x + 1) 4294967295 else e.reversals.get x := by
  rw [← satInc_eq_min]
  cases x <;> rfl

theorem Engine.summarize_low (e : Engine) (w : Window) (o : Opening) (cause : CloseCause) (x : Phase) :
    (e.summarize w o cause).low.get x =
      if o.meter.lanes.testBit (phaseNumber x) = false then .notEnabled
      else if (w.sums.get x).sets = 0 ∨ (w.sums.get x).squares < (o.meter.lowv * o.meter.lowv * (w.sums.get x).sets : Nat)
        then .low else .notLow := by
  have hjudged : (e.summarize w o cause).low.get x = judgeLow o.meter x (w.sums.get x) := by cases x <;> rfl
  rw [hjudged, judgeLow]
  cases o.meter.lanes.testBit (phaseNumber x) <;> simp

theorem Engine.record_low (e : Engine) (w : Window) (o : Opening) (cause : CloseCause) (x : Phase) :
    (e.record (e.summarize w o cause)).lowVoltage.get x = decide ((e.summarize w o cause).low.get x = .low) := by
  cases x <;> rfl

/-! ### The check of EXPORT (R75) -/

theorem exportCheck_cases (m : Meter) (anyLow : Bool) (aExp n : Nat) (was : ExportState) (consecutive : Nat) :
    let count := min (consecutive + 1) m.tripCount
    let after := exportCheck m anyLow aExp n was consecutive
    (m.expTrip = 0 → after = (.disabled, .normal, 0))
      ∧ (m.expTrip ≠ 0 → anyLow = true → after = (.skipped, was, consecutive))
      ∧ (m.expTrip ≠ 0 → ¬ anyLow = true → m.expTrip * n < aExp →
          after = (.made, if count = m.tripCount ∨ was = .trip then .trip else .warn, count))
      ∧ (m.expTrip ≠ 0 → ¬ anyLow = true → aExp ≤ m.expTrip * n → m.expWarn * n < aExp →
          after = (.made, if was = .trip then .trip else .warn, 0))
      ∧ (m.expTrip ≠ 0 → ¬ anyLow = true → aExp ≤ m.expTrip * n → aExp ≤ m.expWarn * n → after = (.made, .normal, 0)) := by
  intro count after
  refine ⟨fun hoff => if_pos hoff, fun hon hlow => ?_, fun hon hlow habove => ?_, fun hon hlow hwithin hwarn => ?_,
    fun hon hlow hwithin hnot => ?_⟩
  · exact (if_neg hon).trans (if_pos hlow)
  · refine ((if_neg hon).trans ((if_neg hlow).trans (if_pos habove))).trans ?_
    by_cases hcount : min (consecutive + 1) m.tripCount = m.tripCount
    · simp [count, hcount]
    · simp [count, hcount]
  · exact (if_neg hon).trans ((if_neg hlow).trans ((if_neg (Nat.not_lt.mpr hwithin)).trans (if_pos hwarn)))
  · exact (if_neg hon).trans ((if_neg hlow).trans ((if_neg (Nat.not_lt.mpr hwithin)).trans (if_neg (Nat.not_lt.mpr hnot))))

/-- The summary's check is the check of EXPORT of its own judgements and share (R75). -/
theorem Engine.summarize_check (e : Engine) (w : Window) (o : Opening) (cause : CloseCause) :
    let r := e.summarize w o cause
    (r.check, r.exportState, r.consecutive) =
      exportCheck o.meter (decide (r.low.a = .low) || decide (r.low.b = .low) || decide (r.low.c = .low)) r.aExp w.count
        e.exportState e.consecutive := rfl

/-! ### The closed state -/

/-- The next window stands open, empty, with the band in force (stage 9). -/
def State.withEmptyWindow (s : State) : State := { s with engine := { s.engine with window := some s.emptyWindow } }

/-- The state after the stages 1 to 7 and 9 of a close. -/
def State.closed (s : State) (w : Window) (o : Opening) (cause : CloseCause) : State :=
  (s.closeStages w o cause).withEmptyWindow

theorem ExportState.warns_eq (e : ExportState) : e.warns = decide (e ≠ .normal) := by cases e <;> rfl

theorem ExportState.trips_eq (e : ExportState) : e.trips = decide (e = .trip) := by cases e <;> rfl

/-- The stages of a close, put together (R67). -/
theorem State.closed_closed (s : State) (w : Window) (o : Opening) (cause : CloseCause) :
    s.Closed (s.closed w o cause) w o cause := by
  have hengine : (s.closed w o cause).engine =
      { s.engine.record (s.engine.summarize w o cause) with
        window := some { count := 0, band := s.calendar.band, opening := none, sums := .all sumsZero } } := by
    simp [State.closed, State.withEmptyWindow, State.emptyWindow, State.closeStages_engine]
  have hsummary : (s.closed w o cause).engine.summary = s.engine.summarize w o cause := by rw [hengine]; rfl
  have hbank : (s.closed w o cause).bank = _ := s.closeStages_bank w o cause
  have hcredited := Accounts.creditAll_credited s.bank.accounts o.meter.q w.band
    ⟨(s.engine.summarize w o cause).aImp, (s.engine.summarize w o cause).aExp⟩ (s.engine.summarize w o cause).grossShares
  have hconditions : (s.closed w o cause).monitor.conditions = _ := s.closeStages_conditions w o cause
  obtain ⟨hlow, hwarn, htrip⟩ := State.reportEngine_names
    ({ s with engine := s.engine.record (s.engine.summarize w o cause) } : State)
  rw [← hconditions] at hlow hwarn htrip
  have hspares := s.closeStages_spares w o cause (k := 31) (by decide) (by decide) (by decide)
  constructor
  case sequence => rw [hengine]; exact ⟨rfl, rfl⟩
  case named => rw [hsummary]; exact ⟨rfl, rfl⟩
  case window => rw [hsummary]; exact ⟨rfl, rfl, rfl, rfl, rfl, rfl⟩
  case mode => rw [hsummary]; rfl
  case directions =>
    intro x
    rw [hengine]
    have hjudged := s.engine.record_direction w o cause x
    have hcases := directionOf_cases (o.meter.creep * w.count) (w.sums.get x).energy (s.engine.lastDirection.get x)
    dsimp only at hjudged hcases ⊢
    rw [← hjudged] at hcases
    exact hcases
  case reversals =>
    intro x
    rw [hengine]
    exact s.engine.record_reversals w o cause x
  case low =>
    intro x
    refine ⟨?_, ?_, ?_⟩
    · rw [hsummary]; exact s.engine.summarize_low w o cause x
    · rw [hengine]; exact s.engine.record_low w o cause x
    · rw [hengine]; exact hlow x
  case exportCheck =>
    rw [hsummary]
    have hcases := exportCheck_cases o.meter (decide ((s.engine.summarize w o cause).low.a = .low)
      || decide ((s.engine.summarize w o cause).low.b = .low) || decide ((s.engine.summarize w o cause).low.c = .low))
      (s.engine.summarize w o cause).aExp w.count s.engine.exportState s.engine.consecutive
    dsimp only at hcases ⊢
    rw [← s.engine.summarize_check w o cause] at hcases
    simpa only [Bool.or_eq_true, decide_eq_true_eq, or_assoc] using hcases
  case exportFlags =>
    refine ⟨?_, ?_, ?_, ?_⟩
    · rw [hengine]; rfl
    · rw [hengine]; rfl
    · rw [hengine, ← ExportState.warns_eq]; exact hwarn
    · rw [hengine, ← ExportState.trips_eq]; exact htrip
  case shares => rw [hsummary]; rfl
  case credited => rw [hengine]; rfl
  case next => rw [hengine]
  case engine => rw [hengine]; exact ⟨rfl, rfl, rfl⟩
  case importChain => rw [hsummary, hbank]; exact hcredited.imp
  case exportChain => rw [hsummary, hbank]; exact hcredited.exp
  case grossChains =>
    intro x
    rw [hbank]
    have hgross := hcredited.gross x
    cases x <;> exact hgross
  case otherBands => rw [hbank]; exact hcredited.otherBands
  case bank => rw [hbank]; exact ⟨hcredited.updateCount, rfl⟩
  case rollover => rw [hsummary]; exact s.closeStages_rollover w o cause
  case credit => rw [hsummary]; exact s.closeStages_credits w o cause
  case marks => rw [hsummary]; exact s.closeStages_aligner w o cause
  case report => rw [hsummary]; exact s.closeStages_reports w o cause
  case dropped => exact s.closeStages_dropped w o cause
  case frame =>
    refine ⟨?_, ?_, ?_, ?_, hspares.watchdog⟩
    · simp [State.closed, State.withEmptyWindow]
    · simp [State.closed, State.withEmptyWindow]
    · refine Link.with_urgent_eq (a := { (s.closed w o cause).link with reports := s.link.reports }) ?_
      simp [State.closed, State.withEmptyWindow]
    · have hreset : (s.closed w o cause).resetApplied = s.resetApplied := by simp [State.closed, State.withEmptyWindow]
      exact Prod.ext hreset hspares.mask

end Sys2Proof.Machine

/-! # The install of a METER table at the lanes, the cycle memories and the checkers (R20, R36, R182) -/

namespace Sys2Proof.Machine

/-! ### One lane -/

/-- A lane after the install, with its detectors restarted where STUCK_LIMIT changes (R20). -/
def Lane.installed (l : Lane) (x : Phase) (was now restart : Bool) (exit : StrobeIndex) : Lane :=
  if restart then (l.install x was now exit).resetDetectors else l.install x was now exit

theorem Lane.install_of_kept {was now : Bool} (h : was = now) (l : Lane) (x : Phase) (exit : StrobeIndex) :
    l.install x was now exit = l := by
  subst h
  cases was <;> rfl

theorem Lane.install_of_enabled (l : Lane) (x : Phase) (exit : StrobeIndex) :
    l.install x false true exit = if l.state = .off then l.enterSeek else l := rfl

theorem Lane.install_of_disabled (l : Lane) (x : Phase) (exit : StrobeIndex) :
    l.install x true false exit =
      { (l.sendTestExit x exit).clearRuns.restartPeriod.resetDetectors with state := .off, queue := [] } := rfl

/-- Of everything but its detectors a lane keeps after the restart of those what the install gave it. -/
theorem Lane.installed_eq (l : Lane) (x : Phase) (was now restart : Bool) (exit : StrobeIndex) :
    l.installed x was now restart exit =
      { l.install x was now exit with
        voltage := if restart then detectorAtPowerOn else (l.install x was now exit).voltage
        current := if restart then detectorAtPowerOn else (l.install x was now exit).current } := by
  cases restart <;> rfl

/-- An install keeps the errors of the last period and the counters. -/
theorem Lane.install_kept (l : Lane) (x : Phase) (was now : Bool) (exit : StrobeIndex) :
    (l.install x was now exit).lastPeriodErrors = l.lastPeriodErrors ∧ (l.install x was now exit).counters = l.counters := by
  have hsent : (l.sendTestExit x exit).lastPeriodErrors = l.lastPeriodErrors
      ∧ (l.sendTestExit x exit).counters = l.counters := by
    unfold Lane.sendTestExit
    split <;> exact ⟨rfl, rfl⟩
  unfold Lane.install
  split
  · split <;> exact ⟨rfl, rfl⟩
  · split
    · exact hsent
    · exact ⟨rfl, rfl⟩

/-- An install that does not disable the lane leaves its detectors. -/
theorem Lane.install_detectors_of_on (l : Lane) (x : Phase) {was now : Bool} (h : ¬ (was = true ∧ now = false))
    (exit : StrobeIndex) :
    (l.install x was now exit).voltage = l.voltage ∧ (l.install x was now exit).current = l.current := by
  unfold Lane.install
  split
  · split <;> exact ⟨rfl, rfl⟩
  · rw [if_neg]
    · exact ⟨rfl, rfl⟩
    · simpa using h

/-- An install never makes a channel stuck. -/
theorem Lane.installed_voltage (l : Lane) (x : Phase) (was now restart : Bool) (exit : StrobeIndex) :
    (!l.voltage.stuck && (l.installed x was now restart exit).voltage.stuck) = false := by
  have hinstall : (l.install x was now exit).voltage = l.voltage
      ∨ (l.install x was now exit).voltage = detectorAtPowerOn := by
    unfold Lane.install
    split
    · split <;> exact .inl rfl
    · split
      · exact .inr rfl
      · exact .inl rfl
  cases restart
  · rcases hinstall with h | h
    · simp [Lane.installed, h]
    · simp [Lane.installed, h, detectorAtPowerOn]
  · simp [Lane.installed, Lane.resetDetectors, detectorAtPowerOn]

/-- An install takes a lane out of UP and SUSPECT where it disables it. -/
theorem Lane.installed_used (l : Lane) (x : Phase) (was now restart : Bool) (exit : StrobeIndex) :
    (l.state.used && !(l.installed x was now restart exit).state.used) = (was && !now && l.state.used) := by
  have hstate : (l.installed x was now restart exit).state = (l.install x was now exit).state := by cases restart <;> rfl
  rw [hstate]
  cases was <;> cases now
  · simp [Lane.install_of_kept]
  · rw [Lane.install_of_enabled]
    split
    · rename_i hoff
      rw [hoff]
      rfl
    · simp
  · rw [Lane.install_of_disabled]
    simp [LaneState.used]
  · simp [Lane.install_of_kept]

/-! ### The install at one lane -/

theorem State.enabled_of_tables {s t : State} (h : t.tables = s.tables) (x : Phase) : t.enabled x = s.enabled x := by
  simp only [State.enabled, h]

theorem Aligner.latestIndex_of_latest {a b : Aligner} (h : a.latest = b.latest) : a.latestIndex = b.latestIndex := by
  simp only [Aligner.latestIndex, h]

theorem enabledIn_active (s : State) (x : Phase) : enabledIn s.tables.meterActive x = s.enabled x := by
  unfold enabledIn State.enabled
  cases s.tables.meterActive <;> rfl

section OneLane

variable (s : State) (was restart : Bool) (x y : Phase)

/-- The checker of a lane that the install takes out of TEST enters IDLE, before the lane changes (R182). -/
def State.testEnded : State := if was && !s.enabled x then s.endLaneTest x else s

theorem State.testEnded_lanes : (s.testEnded was x).lanes = s.lanes := by
  unfold State.testEnded
  split <;> simp

theorem State.testEnded_aligner : (s.testEnded was x).aligner = s.aligner := by
  unfold State.testEnded
  split <;> simp

theorem State.endLaneTest_checkers_get : (s.endLaneTest x).checkers.get y =
    if y = x ∧ (s.lanes.get x).state = .test then { s.checkers.get y with state := .idle } else s.checkers.get y := by
  unfold State.endLaneTest
  by_cases htest : (s.lanes.get x).state = .test
  · rw [if_pos htest]
    simp only [phase_get_modify, htest, and_true]
    by_cases hy : y = x
    · subst hy
      rw [if_pos rfl, if_pos rfl]
      rfl
    · rw [if_neg hy, if_neg hy]
  · rw [if_neg htest, if_neg fun h => htest h.2]

theorem State.testEnded_checkers : (s.testEnded was x).checkers.get y =
    if y = x ∧ was = true ∧ s.enabled x = false ∧ (s.lanes.get x).state = .test then
      { s.checkers.get y with state := .idle } else s.checkers.get y := by
  unfold State.testEnded
  cases was
  · simp
  · cases s.enabled x
    · simp [State.endLaneTest_checkers_get]
    · simp

theorem State.installAtLane_eq : s.installAtLane was restart x = (s.testEnded was x).changeLane x
    ((s.lanes.get x).installed x was (s.enabled x) restart s.aligner.latestIndex) := by
  have hlanes := s.testEnded_lanes was x
  have haligner := s.testEnded_aligner was x
  have hcut : s.installAtLane was restart x = (s.testEnded was x).changeLane x
      (((s.testEnded was x).lanes.get x).installed x was (s.enabled x) restart (s.testEnded was x).aligner.latestIndex) := rfl
  rw [hcut, hlanes, haligner]

theorem State.installAtLane_lanes_get : (s.installAtLane was restart x).lanes.get y =
    if y = x then (s.lanes.get x).installed x was (s.enabled x) restart s.aligner.latestIndex else s.lanes.get y := by
  rw [State.installAtLane_eq, State.changeLane_lanes, State.testEnded_lanes, PerPhase.get_set]

theorem State.installAtLane_cycles_get : (s.installAtLane was restart x).aligner.cycles.get y =
    if y = x ∧ (was && !s.enabled x && (s.lanes.get x).state.used) = true then (s.aligner.cycles.get y).empty
    else s.aligner.cycles.get y := by
  rw [State.installAtLane_eq, State.changeLane_cycles_get, State.testEnded_lanes, State.testEnded_aligner,
    Lane.installed_voltage, Lane.installed_used, Bool.or_false]

theorem State.installAtLane_checkers_get : (s.installAtLane was restart x).checkers.get y =
    if y = x ∧ was = true ∧ s.enabled x = false ∧ (s.lanes.get x).state = .test then
      { s.checkers.get y with state := .idle } else s.checkers.get y := by
  rw [State.installAtLane_eq, ← State.testEnded_checkers]
  simp only [State.changeLane_frame]

end OneLane

/-! ### The install at the three lanes and the aligner -/

/-- The install at the lane receivers, in their order (R20). -/
def State.installAtLanes (s : State) (old : Option Meter) (restart : Bool) : State :=
  ((s.installAtLane (enabledIn old .a) restart .a).installAtLane (enabledIn old .b) restart .b).installAtLane
    (enabledIn old .c) restart .c

section ThreeLanes

variable (s : State) (old : Option Meter) (restart : Bool) (x : Phase)

theorem State.installAtLane_enabled (was : Bool) (y : Phase) : (s.installAtLane was restart y).enabled x = s.enabled x :=
  State.enabled_of_tables (by simp) x

theorem State.installAtLane_latestIndex (was : Bool) (y : Phase) :
    (s.installAtLane was restart y).aligner.latestIndex = s.aligner.latestIndex :=
  Aligner.latestIndex_of_latest (by simp)

theorem State.installAtLanes_lanes_get : (s.installAtLanes old restart).lanes.get x =
    (s.lanes.get x).installed x (enabledIn old x) (s.enabled x) restart s.aligner.latestIndex := by
  cases x <;> simp only [State.installAtLanes, State.installAtLane_lanes_get, State.installAtLane_enabled,
    State.installAtLane_latestIndex, reduceCtorEq, if_true, if_false]

theorem State.installAtLanes_cycles_get : (s.installAtLanes old restart).aligner.cycles.get x =
    if enabledIn old x && !s.enabled x && (s.lanes.get x).state.used then (s.aligner.cycles.get x).empty
    else s.aligner.cycles.get x := by
  cases x <;> simp only [State.installAtLanes, State.installAtLane_lanes_get, State.installAtLane_cycles_get,
    State.installAtLane_enabled, reduceCtorEq, true_and, false_and, if_false]

theorem State.installAtLanes_checkers_get : (s.installAtLanes old restart).checkers.get x =
    if enabledIn old x = true ∧ s.enabled x = false ∧ (s.lanes.get x).state = .test then
      { s.checkers.get x with state := .idle } else s.checkers.get x := by
  cases x <;> simp only [State.installAtLanes, State.installAtLane_lanes_get, State.installAtLane_checkers_get,
    State.installAtLane_enabled, reduceCtorEq, true_and, false_and, if_false]

theorem State.installAtLanes_spares {k : Nat} (hk : 24 ≤ k) : s.Spares (s.installAtLanes old restart) k :=
  ((s.installAtLane_spares _ _ _ hk).trans (State.installAtLane_spares _ _ _ _ hk)).trans
    (State.installAtLane_spares _ _ _ _ hk)

end ThreeLanes

/-- The install changes CYCLE_LEN (R36). -/
def changesCycleLen (old : Option Meter) (new : Meter) : Bool :=
  match old with
  | none => true
  | some m => decide (m.cycleLen ≠ new.cycleLen)

theorem State.installAtAligner_eq (s : State) (old : Option Meter) (new : Meter) : s.installAtAligner old new =
    if changesCycleLen old new then
      { s with aligner := { s.aligner with cycles := s.aligner.cycles.map CycleMemory.empty } } else s := by
  cases old <;> rfl

/-- A METER install is the install at the lanes, and then at the aligner, the bank, the demand unit and the watchdog. -/
theorem State.installMeter_eq (s : State) (old : Option Meter) (new : Meter) (b : Band) : s.installMeter old new b =
    ((((s.installAtLanes old (changesStuckLimit old new)).installAtAligner old new).installAtBank old new b).installAtDemand
      old new).installAtWatchdog old new := rfl

section Meter

variable (s : State) (old : Option Meter) (new : Meter) (b : Band) (x : Phase)

theorem State.installMeter_lanes_get : (s.installMeter old new b).lanes.get x =
    (s.lanes.get x).installed x (enabledIn old x) (s.enabled x) (changesStuckLimit old new) s.aligner.latestIndex := by
  rw [← State.installAtLanes_lanes_get, State.installMeter_eq]
  simp

theorem State.installMeter_cycles_get : (s.installMeter old new b).aligner.cycles.get x =
    if changesCycleLen old new || (enabledIn old x && !s.enabled x && (s.lanes.get x).state.used) then
      (s.aligner.cycles.get x).empty else s.aligner.cycles.get x := by
  have hlanes := s.installAtLanes_cycles_get old (changesStuckLimit old new) x
  have haligner : (s.installMeter old new b).aligner.cycles.get x =
      if changesCycleLen old new then ((s.installAtLanes old (changesStuckLimit old new)).aligner.cycles.get x).empty
      else (s.installAtLanes old (changesStuckLimit old new)).aligner.cycles.get x := by
    rw [State.installMeter_eq]
    simp only [State.installAtWatchdog_frame, State.installAtDemand_frame, State.installAtBank_frame,
      State.installAtAligner_eq]
    split <;> simp
  rw [haligner, hlanes]
  cases changesCycleLen old new
  · rfl
  · simp only [if_true, Bool.true_or]
    split <;> rfl

theorem State.installMeter_checkers_get : (s.installMeter old new b).checkers.get x =
    if enabledIn old x = true ∧ s.enabled x = false ∧ (s.lanes.get x).state = .test then
      { s.checkers.get x with state := .idle } else s.checkers.get x := by
  rw [← s.installAtLanes_checkers_get old (changesStuckLimit old new), State.installMeter_eq]
  simp

end Meter

/-! ### What the install does at the lanes, put together -/

theorem changesStuckLimit_of_same {old : Option Meter} {new : Meter}
    (h : ∃ m, old = some m ∧ m.stuckLimit = new.stuckLimit) : changesStuckLimit old new = false := by
  obtain ⟨m, rfl, hsame⟩ := h
  simp [changesStuckLimit, hsame]

theorem changesStuckLimit_of_changed {old : Option Meter} {new : Meter}
    (h : ∀ m, old = some m → m.stuckLimit ≠ new.stuckLimit) : changesStuckLimit old new = true := by
  cases old with
  | none => rfl
  | some m => exact decide_eq_true (h m rfl)

theorem changesCycleLen_of_same {old : Option Meter} {new : Meter}
    (h : ∃ m, old = some m ∧ m.cycleLen = new.cycleLen) : changesCycleLen old new = false := by
  obtain ⟨m, rfl, hsame⟩ := h
  simp [changesCycleLen, hsame]

theorem changesCycleLen_of_changed {old : Option Meter} {new : Meter}
    (h : ∀ m, old = some m → m.cycleLen ≠ new.cycleLen) : changesCycleLen old new = true := by
  cases old with
  | none => rfl
  | some m => exact decide_eq_true (h m rfl)

/-- Where each lane, memory and checker of `t` is what the install makes of that of `s`, the install is made at the lanes. -/
theorem State.meterInstalledAtLanes_of {s t : State} {new : Meter} (hnew : s.tables.meterPending.clamped = new)
    (hlanes : ∀ x, t.lanes.get x = (s.lanes.get x).installed x (s.enabled x) (new.lanes.testBit (phaseNumber x))
      (changesStuckLimit s.tables.meterActive new) s.aligner.latestIndex)
    (hcycles : ∀ x, t.aligner.cycles.get x =
      if changesCycleLen s.tables.meterActive new
        || (s.enabled x && !new.lanes.testBit (phaseNumber x) && (s.lanes.get x).state.used) then
        (s.aligner.cycles.get x).empty else s.aligner.cycles.get x)
    (hcheckers : ∀ x, t.checkers.get x =
      if s.enabled x = true ∧ new.lanes.testBit (phaseNumber x) = false ∧ (s.lanes.get x).state = .test then
        { s.checkers.get x with state := .idle } else s.checkers.get x) :
    s.MeterInstalledAtLanes t := by
  subst hnew
  intro x new was now l l'
  have hl' : l' = { l.install x was now s.aligner.latestIndex with
      voltage := if changesStuckLimit s.tables.meterActive new then detectorAtPowerOn
        else (l.install x was now s.aligner.latestIndex).voltage
      current := if changesStuckLimit s.tables.meterActive new then detectorAtPowerOn
        else (l.install x was now s.aligner.latestIndex).current } := (hlanes x).trans (Lane.installed_eq _ _ _ _ _ _)
  have hcycle := hcycles x
  have hused : (l.state.used = true) ↔ (l.state = .up ∨ l.state = .suspect) := LaneState.used_iff _
  refine ⟨fun hwas hnow hoff => ?_, fun hwas hnow => ?_, fun hkept => ?_, ?_, fun hsame hnot => ?_, fun hchanged => ?_, ?_,
    fun hchanged => ?_, fun hsame hnot => ?_, fun hwas hnow hstate => ?_, hcheckers x⟩
  · rw [hl', hwas, hnow, Lane.install_of_enabled, if_pos hoff]
    exact ⟨rfl, rfl, rfl, rfl, rfl⟩
  · rw [hl', hwas, hnow, Lane.install_of_disabled]
    refine ⟨rfl, rfl, rfl, rfl, by simp [Lane.resetDetectors], by simp [Lane.resetDetectors], fun hno => ?_, fun n htest hn => ?_⟩
    · simp [Lane.sendTestExit, hno, Lane.clearRuns, Lane.restartPeriod, Lane.resetDetectors]
    · simp [Lane.sendTestExit, htest, Lane.clearRuns, Lane.restartPeriod, Lane.resetDetectors, Lane.send,
        Aligner.latestIndex, hn]
  · have hinstall : l.install x was now s.aligner.latestIndex = l := by
      rcases hkept with hkept | ⟨hwas, hon⟩
      · exact Lane.install_of_kept hkept _ _ _
      · cases hnow : now with
        | false => exact Lane.install_of_kept hwas _ _ _
        | true => rw [hwas, Lane.install_of_enabled, if_neg hon]
    rw [hl', hinstall]
    exact ⟨rfl, rfl, rfl, rfl, rfl⟩
  · rw [hl']
    exact Lane.install_kept _ _ _ _ _
  · rw [hl', changesStuckLimit_of_same hsame]
    exact Lane.install_detectors_of_on l x hnot s.aligner.latestIndex
  · rw [hl', changesStuckLimit_of_changed hchanged]
    exact ⟨rfl, rfl⟩
  · rw [hcycle]
    split <;> rfl
  · rw [hcycle, changesCycleLen_of_changed hchanged, Bool.true_or, if_pos rfl]
    exact ⟨rfl, rfl⟩
  · rw [hcycle, changesCycleLen_of_same hsame, Bool.false_or, if_neg]
    simp only [Bool.and_eq_true, Bool.not_eq_true', and_assoc]
    exact fun ⟨hwas, hnow, h⟩ => hnot ⟨hwas, hnow, hused.mp h⟩
  · have hloses : (was && !now && l.state.used) = true := by
      rw [hwas, hnow, hused.mpr hstate]
      rfl
    have hcut := hloses
    simp only [was, now, l] at hcut
    rw [hcycle, hcut, Bool.or_true, if_pos rfl]
    exact ⟨rfl, rfl⟩

end Sys2Proof.Machine

/-! # The install of a METER table at the bank, the demand unit and the watchdog (R88, R123, R150) -/

namespace Sys2Proof.Machine

/-! ### The bank -/

theorem State.installAtBank_of_same {s : State} {old : Option Meter} {new : Meter} (h : ∀ m, old = some m → m.q = new.q)
    (b : Band) : s.installAtBank old new b = s := by
  cases old with
  | none => rfl
  | some m => exact if_pos (h m rfl)

theorem State.installAtBank_of_changed {s : State} {m new : Meter} (h : m.q ≠ new.q) (b : Band) :
    s.installAtBank (some m) new b = s.normalise new.q b := if_neg h

/-- A normalisation credits its quanta to the band (R88, R89). -/
theorem State.normalise_credits (s : State) (q : Nat) (b : Band) : (s.normalise q b).credits = s.credits ++
    [{ quanta := ⟨s.bank.accounts.residue.imp / q, s.bank.accounts.residue.exp / q⟩, band := b, intervalEnd := false }] :=
  s.creditBank_credits q b ⟨0, 0⟩ (.all ⟨0, 0⟩) false

theorem State.normalise_bank (s : State) (q : Nat) (b : Band) :
    s.bank.accounts.Normalised (s.normalise q b).bank.accounts q b ∧ (s.normalise q b).bank.snapshot = s.bank.snapshot := by
  rw [State.normalise, State.creditBank_bank]
  exact ⟨(Accounts.creditAll_credited _ _ _ _ _).normalised, rfl⟩

theorem State.installAtBank_spares (s : State) (old : Option Meter) (new : Meter) (b : Band) {k : Nat} (hk : k ≠ 30) :
    s.Spares (s.installAtBank old new b) k := by
  cases old with
  | none => exact .of_monitor (by rfl) k
  | some m =>
    by_cases h : m.q = new.q
    · rw [State.installAtBank_of_same (fun _ hm => by cases hm; exact h)]
      exact .of_monitor (by rfl) k
    · rw [State.installAtBank_of_changed h]
      exact s.creditBank_spares _ _ _ _ _ hk

/-- The mask and the watchdog know nothing of an install at the bank. -/
theorem State.installAtBank_rollover (s : State) (old : Option Meter) (new : Meter) (b : Band) :
    (s.installAtBank old new b).monitor.latched.getLsbD 30 = true ↔ s.monitor.latched.getLsbD 30 = true
      ∨ ∃ m, old = some m ∧ m.q ≠ new.q ∧ s.bank.accounts.Wraps new.q b ⟨0, 0⟩ (.all ⟨0, 0⟩) := by
  cases old with
  | none => simp [State.installAtBank]
  | some m =>
    by_cases h : m.q = new.q
    · rw [State.installAtBank_of_same (fun _ hm => by cases hm; exact h)]
      simp [h]
    · rw [State.installAtBank_of_changed h, State.normalise, State.creditBank_rollover]
      simp [h]

/-! ### The demand unit -/

theorem changesDemand_iff (old : Option Meter) (new : Meter) : changesDemand old new = true ↔
    ∀ m, old = some m → m.demandMode ≠ new.demandMode ∨ m.di ≠ new.di := by
  cases old with
  | none => simp [changesDemand]
  | some m => simp [changesDemand]

theorem State.installAtDemand_of_kept {s : State} {old : Option Meter} {new : Meter}
    (h : changesDemand old new = false ∨ s.engine.state ≠ .metering) : s.installAtDemand old new = s := by
  refine if_neg fun ⟨hchanges, hstate⟩ => ?_
  rcases h with h | h
  · exact absurd hchanges (by rw [h]; decide)
  · exact h hstate

theorem State.installAtDemand_of_changed {s : State} {old : Option Meter} {new : Meter}
    (h : changesDemand old new = true) (hstate : s.engine.state = .metering) :
    s.installAtDemand old new = (s.creditsBeforeInstall old).abandonForInstall := if_pos ⟨h, hstate⟩

/-- Taken credits are those at the head of the waiting ones. -/
theorem State.takeCredit_credits (s : State) : s.takeCredit.credits = s.credits.tail := by
  cases hcredits : s.credits with
  | nil => simp [State.takeCredit, hcredits]
  | cons c rest => simp [State.takeCredit, hcredits]

theorem State.takeCredits_credits (n : Nat) (s : State) : (State.takeCredits n s).credits = s.credits.drop n := by
  induction n generalizing s with
  | zero => rfl
  | succ n ih => rw [State.takeCredits, ih, State.takeCredit_credits, List.drop_tail]

theorem State.installAtDemand_credits (s : State) (old : Option Meter) (new : Meter) :
    ∃ taken, s.credits = taken ++ (s.installAtDemand old new).credits := by
  by_cases h : changesDemand old new = true ∧ s.engine.state = .metering
  · obtain ⟨hchanges, hstate⟩ := h
    refine ⟨s.credits.take (min (Config.creditsBeforeInstall s.freeChoices) s.credits.length), ?_⟩
    have hleft : (s.installAtDemand old new).credits =
        s.credits.drop (min (Config.creditsBeforeInstall s.freeChoices) s.credits.length) := by
      rw [State.installAtDemand_of_changed hchanges hstate, State.creditsBeforeInstall_eq]
      simp only [State.abandonForInstall_frame, State.takeCredits_credits]
      rfl
    rw [hleft, List.take_append_drop]
  · have hkept : s.installAtDemand old new = s := if_neg h
    exact ⟨[], by rw [hkept]; rfl⟩

/-- What the demand unit keeps through every interval: the previous records and the number of resets (R121). -/
def Demand.past (d : Demand) : DemandRecords × Nat := (d.previous, d.resetCount)

theorem State.closeInterval_past (s : State) (b : Band) : (s.closeInterval b).demand.past = s.demand.past := by
  have hcompared : (s.demand.compare b).past = s.demand.past := by
    unfold Demand.compare
    split <;> rfl
  unfold State.closeInterval
  dsimp only
  split
  · exact hcompared
  · exact hcompared
  · split <;> exact hcompared
  · exact hcompared

theorem State.takeCredit_past (s : State) : s.takeCredit.demand.past = s.demand.past := by
  unfold State.takeCredit
  split
  · rfl
  · unfold State.acceptCredit
    split
    · rfl
    · rfl
    · rfl
    · dsimp only
      split
      · exact State.closeInterval_past _ _
      · rfl

theorem State.takeCredits_past (n : Nat) (s : State) : (State.takeCredits n s).demand.past = s.demand.past := by
  induction n generalizing s with
  | zero => rfl
  | succ n ih => exact (ih s.takeCredit).trans s.takeCredit_past

/-- The demand unit after the abandonment at an install of the table `new` (R123, log 17). -/
structure Demand.Abandoned (d d' : Demand) (new : Meter) (clockSet : Bool) : Prop where
  cleared : d'.sums = ⟨0, 0⟩ ∧ d'.restartPending = false ∧ d'.terminal = false ∧ (d'.stampDay, d'.stampMinute) = (0, 0)
  past : d'.past = d.past
  begun : new.demandMode ≤ 2 → d'.state = .running ∧ d'.partialMark = true
    ∧ d'.base = (if new.demandMode = 1 ∨ new.demandMode = 2 ∨ (new.demandMode = 0 ∧ clockSet = false)
        then new.di * 240000 else 0)
    ∧ d'.current = d'.base
  idle : new.demandMode = 3 → d'.state = .idle ∧ d'.partialMark = false ∧ d'.base = 0 ∧ d'.current = 0

theorem State.abandonForInstall_abandoned {s : State} {new : Meter} (hm : s.tables.meterActive = some new) :
    s.demand.Abandoned s.abandonForInstall.demand new s.calendar.clockSet := by
  have hmode : s.demandMode = demandModeOf new.demandMode := by simp only [State.demandMode, hm]
  by_cases hoff : s.demandMode = .off
  · have habandoned : s.abandonForInstall.demand = { s.demand with restartPending := false }.abandonToIdle := by
      have hoff' : ({ s with demand := { s.demand with restartPending := false } } : State).demandMode = .off := hoff
      simp only [State.abandonForInstall, hoff', if_true]
    have hnot : ¬ new.demandMode ≤ 2 := fun h =>
      absurd ((demandModeOf_eq_off_iff (by omega)).mp (hmode.symm.trans hoff)) (by omega)
    rw [habandoned]
    exact ⟨⟨rfl, rfl, rfl, rfl⟩, rfl, fun h => absurd h hnot, fun _ => ⟨rfl, rfl, rfl, rfl⟩⟩
  · have hbegun : s.abandonForInstall =
        ({ s with demand := { s.demand with restartPending := false } } : State).beginInterval true true := if_neg hoff
    have hminutes : s.demandMinutes = new.di := by simp [State.demandMinutes, hm]
    have hbase : (if s.counterMode then s.demandMinutes * 240000 else 0) =
        if new.demandMode = 1 ∨ new.demandMode = 2 ∨ (new.demandMode = 0 ∧ s.calendar.clockSet = false)
          then new.di * 240000 else 0 := by
      rw [hminutes]
      exact if_congr (State.counterMode_iff hm) rfl rfl
    have hnot : new.demandMode ≠ 3 := fun h => hoff (hmode.trans ((demandModeOf_eq_off_iff h.le).mpr h))
    rw [hbegun, State.beginInterval_loaded]
    exact ⟨⟨rfl, rfl, rfl, rfl⟩, rfl, fun _ => ⟨rfl, rfl, hbase, rfl⟩, fun h => absurd h hnot⟩

theorem State.installAtDemand_abandoned {s : State} {old : Option Meter} {new : Meter}
    (h : changesDemand old new = true) (hstate : s.engine.state = .metering) (hm : s.tables.meterActive = some new) :
    s.demand.Abandoned (s.installAtDemand old new).demand new s.calendar.clockSet
      ∧ (s.installAtDemand old new).freeChoices = s.freeChoices + 1 := by
  have hpast : (s.creditsBeforeInstall old).demand.past = s.demand.past := State.takeCredits_past _ (s.underTable old)
  obtain ⟨hcleared, hkept, hbegun, hidle⟩ := State.abandonForInstall_abandoned (s := s.creditsBeforeInstall old)
    (new := new) (by simpa using hm)
  rw [State.installAtDemand_of_changed h hstate]
  refine ⟨⟨hcleared, hkept.trans hpast, ?_, hidle⟩, ?_⟩
  · simpa using hbegun
  · rw [State.creditsBeforeInstall_eq]
    simp [State.underTable]

/-! ### The watchdog -/

theorem State.installAtWatchdog_of_stopped {s : State} (h : s.engine.state ≠ .metering) (old : Option Meter) (new : Meter) :
    s.installAtWatchdog old new = s := if_neg h

/-- In METERING the watchdog follows the installed WATCHDOG (R150, log 34). -/
theorem State.installAtWatchdog_watchdog {s : State} (h : s.engine.state = .metering) (m new : Meter) :
    let t := s.installAtWatchdog (some m) new
    (t.monitor.watchdogRunning, t.monitor.watchdogCount, t.monitor.expired) =
      if new.watchdog = 0 then (false, 0, false)
      else if m.watchdog = 0 then (true, 0, false)
      else (s.monitor.watchdogRunning, s.monitor.watchdogCount, s.monitor.expired) := by
  have hmetering : s.installAtWatchdog (some m) new =
      if new.watchdog = 0 then
        { s with monitor := { s.monitor with watchdogRunning := false, watchdogCount := 0, expired := false } }
      else if m.watchdog = 0 then
        { s with monitor := { s.monitor with watchdogRunning := true, watchdogCount := 0, expired := false } }
      else s := if_pos h
  rw [hmetering]
  split
  · rfl
  · split <;> rfl

/-! ### All blocks -/

/-- Before the watchdog's own install the install of a METER table leaves the mask, the watchdog and the latched marks but
those of lanes, of the rollover and of the demand unit. -/
theorem State.installMeter_spares (s : State) (old : Option Meter) (new : Meter) (b : Band) {k : Nat} (hk : 24 ≤ k)
    (hrollover : k ≠ 30) (hdone : k ≠ 33) : ∃ t, s.Spares t k ∧ t.engine = s.engine
      ∧ s.installMeter old new b = t.installAtWatchdog old new := by
  refine ⟨_, ?_, ?_, s.installMeter_eq old new b⟩
  · exact (((s.installAtLanes_spares old (changesStuckLimit old new) hk).trans (.of_monitor (by simp) k)).trans
      (State.installAtBank_spares _ old new b hrollover)).trans (State.installAtDemand_spares _ old new hdone)
  · simp [State.installAtLanes]

theorem State.installAtWatchdog_latched (s : State) (old : Option Meter) (new : Meter) :
    (s.installAtWatchdog old new).monitor.latched = s.monitor.latched := by
  have hflags := s.installAtWatchdog_flags old new
  simp only [Prod.mk.injEq] at hflags
  exact hflags.2.1

theorem State.installAtWatchdog_mask (s : State) (old : Option Meter) (new : Meter) :
    (s.installAtWatchdog old new).monitor.mask = s.monitor.mask := by
  have hflags := s.installAtWatchdog_flags old new
  simp only [Prod.mk.injEq] at hflags
  exact hflags.2.2.1

section Meter

variable (s : State) (old : Option Meter) (new : Meter) (b : Band)

theorem State.installMeter_mask : (s.installMeter old new b).monitor.mask = s.monitor.mask := by
  obtain ⟨t, hspares, -, heq⟩ := s.installMeter_spares old new b (k := 31) (by decide) (by decide) (by decide)
  rw [heq, State.installAtWatchdog_mask, hspares.mask]

theorem State.installMeter_rollover : (s.installMeter old new b).monitor.latched.getLsbD 30 = true ↔
    s.monitor.latched.getLsbD 30 = true
      ∨ ∃ m, old = some m ∧ m.q ≠ new.q ∧ s.bank.accounts.Wraps new.q b ⟨0, 0⟩ (.all ⟨0, 0⟩) := by
  have hbefore : s.Spares ((s.installAtLanes old (changesStuckLimit old new)).installAtAligner old new) 30 :=
    (s.installAtLanes_spares old (changesStuckLimit old new) (by decide)).trans (.of_monitor (by simp) 30)
  have hbank := ((s.installAtLanes old (changesStuckLimit old new)).installAtAligner old new).installAtBank_rollover old new b
  have hkept : ((s.installAtLanes old (changesStuckLimit old new)).installAtAligner old new).bank = s.bank := by
    simp [State.installAtLanes]
  have hdemand := State.installAtDemand_spares
    (((s.installAtLanes old (changesStuckLimit old new)).installAtAligner old new).installAtBank old new b) old new (k := 30)
    (by decide)
  rw [hbefore.latched, hkept] at hbank
  rw [State.installMeter_eq, State.installAtWatchdog_latched, hdemand.latched]
  exact hbank

theorem State.installMeter_watchdog {m : Meter} (h : s.engine.state = .metering) :
    let t := s.installMeter (some m) new b
    (t.monitor.watchdogRunning, t.monitor.watchdogCount, t.monitor.expired) =
      if new.watchdog = 0 then (false, 0, false)
      else if m.watchdog = 0 then (true, 0, false)
      else (s.monitor.watchdogRunning, s.monitor.watchdogCount, s.monitor.expired) := by
  obtain ⟨t, hspares, hengine, heq⟩ := s.installMeter_spares (some m) new b (k := 31) (by decide) (by decide) (by decide)
  rw [heq, ← hspares.watchdog]
  exact State.installAtWatchdog_watchdog (by rw [hengine]; exact h) m new

/-- The state after the install at the lanes, the aligner and the bank, before the demand unit's (R138). -/
def State.installedToBank : State :=
  ((s.installAtLanes old (changesStuckLimit old new)).installAtAligner old new).installAtBank old new b

theorem State.installMeter_eq_installedToBank : s.installMeter old new b =
    ((s.installedToBank old new b).installAtDemand old new).installAtWatchdog old new := rfl

theorem State.installedToBank_kept : (s.installedToBank old new b).demand = s.demand
    ∧ (s.installedToBank old new b).freeChoices = s.freeChoices ∧ (s.installedToBank old new b).engine = s.engine
    ∧ (s.installedToBank old new b).tables = s.tables ∧ (s.installedToBank old new b).calendar = s.calendar := by
  simp [State.installedToBank, State.installAtLanes]

theorem State.installedToBank_credits : (s.installedToBank old new b).credits = (s.installAtBank old new b).credits := by
  cases old with
  | none => simp [State.installedToBank, State.installAtBank, State.installAtLanes]
  | some m =>
    by_cases h : m.q = new.q
    · rw [State.installedToBank, State.installAtBank_of_same (fun _ hm => by cases hm; exact h),
        State.installAtBank_of_same (fun _ hm => by cases hm; exact h)]
      simp [State.installAtLanes]
    · rw [State.installedToBank, State.installAtBank_of_changed h, State.installAtBank_of_changed h,
        State.normalise_credits, State.normalise_credits]
      simp [State.installAtLanes]

/-- The bank's credits, of which the demand unit takes some before its own install (R123, log 15). -/
theorem State.installMeter_credits : ∃ taken,
    (s.installAtBank old new b).credits = taken ++ (s.installMeter old new b).credits := by
  obtain ⟨taken, htaken⟩ := (s.installedToBank old new b).installAtDemand_credits old new
  refine ⟨taken, ?_⟩
  rw [← State.installedToBank_credits, htaken, State.installMeter_eq_installedToBank]
  simp

/-- Where DEMAND_MODE and DI stay, or METERING does not run, the demand unit knows nothing of the install. -/
theorem State.installMeter_demand_of_kept (h : changesDemand old new = false ∨ s.engine.state ≠ .metering) :
    (s.installMeter old new b).demand = s.demand ∧ (s.installMeter old new b).freeChoices = s.freeChoices
      ∧ (s.installMeter old new b).credits = (s.installAtBank old new b).credits := by
  obtain ⟨hdemand, hchoices, hengine, -, -⟩ := s.installedToBank_kept old new b
  rw [← hengine] at h
  rw [State.installMeter_eq_installedToBank, State.installAtDemand_of_kept h, ← State.installedToBank_credits]
  simp [hdemand, hchoices]

theorem State.installMeter_abandoned (h : changesDemand old new = true) (hstate : s.engine.state = .metering)
    (hm : s.tables.meterActive = some new) :
    s.demand.Abandoned (s.installMeter old new b).demand new s.calendar.clockSet
      ∧ (s.installMeter old new b).freeChoices = s.freeChoices + 1 := by
  obtain ⟨hdemand, hchoices, hengine, htables, hcalendar⟩ := s.installedToBank_kept old new b
  have habandoned := State.installAtDemand_abandoned (s := s.installedToBank old new b) h (hengine ▸ hstate) (htables ▸ hm)
  rw [hdemand, hchoices, hcalendar] at habandoned
  rw [State.installMeter_eq_installedToBank]
  simpa using habandoned

end Meter

end Sys2Proof.Machine

/-! # The install of the requested tables in one step (R137) -/

namespace Sys2Proof.Machine

/-! ### An evaluation, field by field (R110, R113) -/

/-- An evaluation reads the tables, the engine's state and the clock alone. -/
theorem State.bandNow_congr {s t : State} (htables : t.tables = s.tables) (hstate : t.engine.state = s.engine.state)
    (hclock : { t.calendar with band := s.calendar.band, source := s.calendar.source } = s.calendar) :
    t.bandNow = s.bandNow := by
  have hcalendar : s.calendar = { t.calendar with band := s.calendar.band, source := s.calendar.source } := hclock.symm
  have hset : t.calendar.clockSet = s.calendar.clockSet := by rw [hcalendar]
  have hminute : t.calendar.minute = s.calendar.minute := by rw [hcalendar]
  have hprofile (c : CalendarTable) : t.calendar.todaysProfile c = s.calendar.todaysProfile c := by rw [hcalendar]; rfl
  simp only [State.bandNow, htables, hstate, hset, hminute, hprofile]

section Evaluate

variable (s : State)

theorem State.evaluate_calendar :
    s.evaluate.calendar = { s.calendar with band := s.bandNow.1, source := s.bandNow.2 } := by
  unfold State.evaluate
  split <;> rfl

theorem State.evaluate_aligner : s.evaluate.aligner =
    { s.aligner with bandChanged := s.aligner.bandChanged || decide (s.bandNow.1 ≠ s.calendar.band) } := by
  unfold State.evaluate
  by_cases h : s.bandNow.1 = s.calendar.band
  · simp [h, State.withBandNow]
  · simp [h]

theorem State.evaluate_requests (hrun : s.engine.state ≠ .config) : s.evaluate.requests =
    if s.bandNow.1 = s.calendar.band then s.requests else s.requests ++ [.switch] := by
  have hwindows : s.windowsRun = true := decide_eq_true hrun
  unfold State.evaluate
  split
  · rfl
  · rfl

theorem State.evaluate_requests_of_config (hconfig : s.engine.state = .config) : s.evaluate.requests = s.requests := by
  have hwindows : s.windowsRun = false := decide_eq_false (not_not_intro hconfig)
  unfold State.evaluate
  split
  · rfl
  · simp [hwindows]

theorem State.evaluate_clock :
    { s.evaluate.calendar with band := s.calendar.band, source := s.calendar.source } = s.calendar := by
  rw [State.evaluate_calendar]

/-- What an evaluation finds stays what one would find (R110). -/
theorem State.evaluate_bandNow : (s.evaluate.calendar.band, s.evaluate.calendar.source) = s.evaluate.bandNow := by
  rw [State.bandNow_congr (s := s) (t := s.evaluate) (by simp) (by simp) s.evaluate_clock, State.evaluate_calendar]

end Evaluate

/-! ### The install in its parts -/

/-- The active copies have changed, and a CAL install has emptied the aligner's history (R137). -/
def State.activated (s : State) (w : TableChoice) : State :=
  { s with tables := s.tables.activate w, history := if w.cal then .all none else s.history }

/-- The blocks have reacted to a METER install (R138). -/
def State.metered (s : State) (w : TableChoice) (b : Band) : State :=
  if w.meter then (s.activated w).installMeter s.tables.meterActive s.tables.meterPending.clamped b else s.activated w

/-- The band has been evaluated where METER or CALENDAR is installed (R112). -/
def State.reacted (s : State) (w : TableChoice) (b : Band) : State :=
  if w.meter || w.calendar then (s.metered w b).evaluate else s.metered w b

section Install

variable (s : State) (w : TableChoice) (b : Band)

theorem State.install_eq : s.install w b =
    (((s.reacted w b).raiseIf w.cal .tableInstalled).raiseIf w.meter .tableInstalled).raiseIf w.calendar .tableInstalled := by
  obtain ⟨cal, meter, calendar⟩ := w
  cases meter
  · cases cal <;> rfl
  · have hclamped : (s.tables.activate ⟨cal, true, calendar⟩).meterPending = s.tables.meterPending := rfl
    cases cal <;> rfl

/-- An install is announced by TABLE_INSTALLED (R137). -/
theorem State.install_announced (h : (w.cal || w.meter || w.calendar) = true) :
    (s.install w b).monitor.latched.getLsbD 31 = true := by
  have hindex : decide (31 = Flag.tableInstalled.index) = true := by rfl
  simp only [State.install_eq, State.raiseIf_latched_getLsbD, hindex, Bool.and_true, Bool.or_assoc] at h ⊢
  rw [h, Bool.or_true]

theorem State.install_spares {k : Nat} (hk : k ≠ 31) : (s.metered w b).Spares (s.install w b) k := by
  have hreacted : (s.metered w b).Spares (s.reacted w b) k := by
    refine .of_monitor ?_ k
    unfold State.reacted
    split <;> simp
  have hraised (t : State) (choice : Bool) : t.Spares (t.raiseIf choice .tableInstalled) k := t.raiseIf_spares choice hk
  rw [State.install_eq]
  exact ((hreacted.trans (hraised _ _)).trans (hraised _ _)).trans (hraised _ _)

theorem State.metered_of_meter (h : w.meter = true) : s.metered w b =
    (s.activated w).installMeter s.tables.meterActive s.tables.meterPending.clamped b := if_pos h

theorem State.metered_of_other (h : w.meter = false) : s.metered w b = s.activated w := by
  simp [State.metered, h]

theorem State.metered_kept : (s.metered w b).engine = s.engine ∧ (s.metered w b).calendar = s.calendar
    ∧ (s.metered w b).requests = s.requests
    ∧ { (s.metered w b).aligner with cycles := s.aligner.cycles } = s.aligner := by
  unfold State.metered
  split
  · refine ⟨by simp [State.activated], by simp [State.activated], by simp [State.activated], ?_⟩
    simp [State.activated]
  · exact ⟨rfl, rfl, rfl, rfl⟩

theorem State.install_history : (s.install w b).history = if w.cal then .all none else s.history := by
  rw [State.install_eq]
  simp only [State.raiseIf_frame, State.reacted, State.metered]
  split <;> split <;> simp [State.activated]

/-- An install touches the band and its source alone of the calendar. -/
theorem State.install_clock :
    { (s.install w b).calendar with band := s.calendar.band, source := s.calendar.source } = s.calendar := by
  obtain ⟨-, hcalendar, -, -⟩ := s.metered_kept w b
  have hreacted : (s.install w b).calendar = (s.reacted w b).calendar := by rw [State.install_eq]; simp
  rw [hreacted, State.reacted]
  split
  · rw [State.evaluate_calendar, hcalendar]
  · rw [hcalendar]

theorem State.install_band (h : (w.meter || w.calendar) = true) :
    ((s.install w b).calendar.band, (s.install w b).calendar.source) = (s.install w b).bandNow := by
  have hreacted : s.reacted w b = (s.metered w b).evaluate := if_pos h
  have hcalendar : (s.install w b).calendar = (s.reacted w b).calendar := by rw [State.install_eq]; simp
  have hnow : (s.install w b).bandNow = (s.reacted w b).bandNow :=
    State.bandNow_congr (by rw [State.install_eq]; simp) (by rw [State.install_eq]; simp) (by rw [hcalendar])
  rw [hcalendar, hnow, hreacted]
  exact State.evaluate_bandNow _

theorem State.install_calendar_of_cal (h : (w.meter || w.calendar) = false) : (s.install w b).calendar = s.calendar := by
  obtain ⟨-, hcalendar, -, -⟩ := s.metered_kept w b
  rw [← hcalendar, State.install_eq]
  simp [State.reacted, h]

theorem State.install_marks : { (s.install w b).aligner with cycles := s.aligner.cycles } =
    { s.aligner with bandChanged :=
        s.aligner.bandChanged || decide ((s.install w b).calendar.band ≠ s.calendar.band) } := by
  obtain ⟨-, hcalendar, -, haligner⟩ := s.metered_kept w b
  have halignerOf : (s.install w b).aligner = (s.reacted w b).aligner := by rw [State.install_eq]; simp
  have hcalendarOf : (s.install w b).calendar = (s.reacted w b).calendar := by rw [State.install_eq]; simp
  rw [halignerOf, hcalendarOf, State.reacted]
  split
  · rw [State.evaluate_aligner, State.evaluate_calendar, ← hcalendar]
    conv_rhs => rw [← haligner]
  · rw [hcalendar]
    simp only [ne_eq, not_true, decide_false, Bool.or_false]
    exact haligner

theorem State.install_requests (hrun : s.engine.state ≠ .config) : (s.install w b).requests =
    if (s.install w b).calendar.band = s.calendar.band then s.requests else s.requests ++ [.switch] := by
  obtain ⟨hengine, hcalendar, hrequests, -⟩ := s.metered_kept w b
  have hrequestsOf : (s.install w b).requests = (s.reacted w b).requests := by rw [State.install_eq]; simp
  have hcalendarOf : (s.install w b).calendar = (s.reacted w b).calendar := by rw [State.install_eq]; simp
  rw [hrequestsOf, hcalendarOf, State.reacted]
  split
  · rw [State.evaluate_requests _ (by rw [hengine]; exact hrun), State.evaluate_calendar, hcalendar, hrequests]
  · rw [hcalendar, hrequests, if_pos rfl]

theorem State.install_requests_of_config (hconfig : s.engine.state = .config) : (s.install w b).requests = s.requests := by
  obtain ⟨hengine, -, hrequests, -⟩ := s.metered_kept w b
  have hrequestsOf : (s.install w b).requests = (s.reacted w b).requests := by rw [State.install_eq]; simp
  rw [hrequestsOf, State.reacted]
  split
  · rw [State.evaluate_requests_of_config _ (by rw [hengine]; exact hconfig), hrequests]
  · exact hrequests

/-- What the evaluation and the flags leave of the METER install. -/
theorem State.install_metered :
    ((s.install w b).lanes, (s.install w b).aligner.cycles, (s.install w b).bank, (s.install w b).demand,
        (s.install w b).credits, (s.install w b).checkers, (s.install w b).freeChoices)
      = ((s.metered w b).lanes, (s.metered w b).aligner.cycles, (s.metered w b).bank, (s.metered w b).demand,
        (s.metered w b).credits, (s.metered w b).checkers, (s.metered w b).freeChoices) := by
  rw [State.install_eq]
  simp only [State.raiseIf_frame, State.reacted]
  split <;> simp

end Install

/-! ### The installs of METER, put together -/

section MeterInstall

variable {s : State} {w : TableChoice} (hmeter : w.meter = true) (b : Band)

include hmeter

theorem State.activated_meterActive : (s.activated w).tables.meterActive = some s.tables.meterPending.clamped := by
  simp [State.activated, Tables.activate, hmeter]

theorem State.activated_enabled (x : Phase) :
    (s.activated w).enabled x = s.tables.meterPending.clamped.lanes.testBit (phaseNumber x) := by
  simp only [State.enabled, State.activated_meterActive hmeter]

/-- An install of METER is made at the lanes, the cycle memories and the checkers (R20, R36, R182). -/
theorem State.install_atLanes : s.MeterInstalledAtLanes (s.install w b) := by
  have hfields := s.install_metered w b
  simp only [Prod.mk.injEq] at hfields
  obtain ⟨hlanes, hcycles, -, -, -, hcheckers, -⟩ := hfields
  refine State.meterInstalledAtLanes_of rfl (fun x => ?_) (fun x => ?_) (fun x => ?_)
  · rw [hlanes, s.metered_of_meter w b hmeter, State.installMeter_lanes_get, State.activated_enabled hmeter, enabledIn_active]
    rfl
  · rw [hcycles, s.metered_of_meter w b hmeter, State.installMeter_cycles_get, State.activated_enabled hmeter, enabledIn_active]
    rfl
  · rw [hcheckers, s.metered_of_meter w b hmeter, State.installMeter_checkers_get, State.activated_enabled hmeter,
      enabledIn_active]
    rfl

theorem State.install_rollover : (s.install w b).monitor.latched.getLsbD 30 = true ↔ s.monitor.latched.getLsbD 30 = true
    ∨ ∃ m, s.tables.meterActive = some m ∧ m.q ≠ s.tables.meterPending.clamped.q
      ∧ s.bank.accounts.Wraps s.tables.meterPending.clamped.q b ⟨0, 0⟩ (.all ⟨0, 0⟩) := by
  rw [(s.install_spares w b (k := 30) (by decide)).latched, s.metered_of_meter w b hmeter]
  exact State.installMeter_rollover (s.activated w) _ _ _

theorem State.install_mask : (s.install w b).monitor.mask = s.monitor.mask := by
  rw [(s.install_spares w b (k := 30) (by decide)).mask, s.metered_of_meter w b hmeter]
  exact State.installMeter_mask (s.activated w) _ _ _

/-- The bank under the same quantum, or before the first METER table, keeps its accounts; the demand unit takes credits
(R88, R123). -/
theorem State.install_sameQuantum (h : ∀ m, s.tables.meterActive = some m → m.q = s.tables.meterPending.clamped.q) :
    (s.install w b).bank = s.bank ∧ ∃ taken, s.credits = taken ++ (s.install w b).credits := by
  have hfields := s.install_metered w b
  simp only [Prod.mk.injEq] at hfields
  obtain ⟨-, -, hbank, -, hcredits, -, -⟩ := hfields
  have hkept : (s.activated w).installAtBank s.tables.meterActive s.tables.meterPending.clamped b = s.activated w :=
    State.installAtBank_of_same h b
  obtain ⟨taken, htaken⟩ := (s.activated w).installMeter_credits s.tables.meterActive s.tables.meterPending.clamped b
  rw [hkept] at htaken
  refine ⟨?_, taken, ?_⟩
  · rw [hbank, s.metered_of_meter w b hmeter, State.installMeter_bank]
    have hsame := (State.installAtBank_bank (s.activated w) _ _ b).symm.trans (congrArg State.bank hkept)
    exact hsame
  · rw [hcredits, s.metered_of_meter w b hmeter]
    exact htaken

/-- Under a new quantum the residues are normalised and their quanta credited (R88, R89). -/
theorem State.install_newQuantum {m : Meter} (hm : s.tables.meterActive = some m)
    (h : m.q ≠ s.tables.meterPending.clamped.q) :
    (s.bank.accounts.Normalised (s.install w b).bank.accounts s.tables.meterPending.clamped.q b
        ∧ (s.install w b).bank.snapshot = s.bank.snapshot)
      ∧ ∃ taken, s.credits ++
          [{ quanta := ⟨s.bank.accounts.residue.imp / s.tables.meterPending.clamped.q,
                        s.bank.accounts.residue.exp / s.tables.meterPending.clamped.q⟩
             band := b, intervalEnd := false }] = taken ++ (s.install w b).credits := by
  have hfields := s.install_metered w b
  simp only [Prod.mk.injEq] at hfields
  obtain ⟨-, -, hbank, -, hcredits, -, -⟩ := hfields
  have hnormalised : (s.activated w).installAtBank (some m) s.tables.meterPending.clamped b =
      (s.activated w).normalise s.tables.meterPending.clamped.q b := State.installAtBank_of_changed h b
  obtain ⟨taken, htaken⟩ := (s.activated w).installMeter_credits s.tables.meterActive s.tables.meterPending.clamped b
  rw [hm, hnormalised, State.normalise_credits] at htaken
  refine ⟨?_, taken, ?_⟩
  · rw [hbank, s.metered_of_meter w b hmeter, State.installMeter_bank, ← State.installAtBank_bank, hm, hnormalised]
    exact (s.activated w).normalise_bank _ b
  · rw [hcredits, s.metered_of_meter w b hmeter, hm]
    exact htaken

/-- Where DEMAND_MODE and DI stay, or METERING does not run, the demand unit knows nothing of the install (R123). -/
theorem State.install_demand_of_kept
    (h : changesDemand s.tables.meterActive s.tables.meterPending.clamped = false ∨ s.engine.state ≠ .metering) :
    (s.install w b).demand = s.demand ∧ (s.install w b).freeChoices = s.freeChoices
      ∧ (s.install w b).credits =
        ((s.activated w).installAtBank s.tables.meterActive s.tables.meterPending.clamped b).credits := by
  have hfields := s.install_metered w b
  simp only [Prod.mk.injEq] at hfields
  obtain ⟨-, -, -, hdemand, hcredits, -, hchoices⟩ := hfields
  have hkept := (s.activated w).installMeter_demand_of_kept s.tables.meterActive s.tables.meterPending.clamped b h
  rw [hdemand, hcredits, hchoices, s.metered_of_meter w b hmeter]
  exact hkept

/-- A changed DEMAND_MODE or DI abandons the interval (R123). -/
theorem State.install_abandoned (h : changesDemand s.tables.meterActive s.tables.meterPending.clamped = true)
    (hstate : s.engine.state = .metering) :
    s.demand.Abandoned (s.install w b).demand s.tables.meterPending.clamped s.calendar.clockSet
      ∧ (s.install w b).freeChoices = s.freeChoices + 1 := by
  have hfields := s.install_metered w b
  simp only [Prod.mk.injEq] at hfields
  obtain ⟨-, -, -, hdemand, -, -, hchoices⟩ := hfields
  rw [hdemand, hchoices, s.metered_of_meter w b hmeter]
  exact State.installMeter_abandoned (s.activated w) _ _ b h hstate (State.activated_meterActive hmeter)

theorem State.install_watchdog {m : Meter} (hm : s.tables.meterActive = some m) (hstate : s.engine.state = .metering) :
    ((s.install w b).monitor.watchdogRunning, (s.install w b).monitor.watchdogCount, (s.install w b).monitor.expired) =
      if s.tables.meterPending.clamped.watchdog = 0 then (false, 0, false)
      else if m.watchdog = 0 then (true, 0, false)
      else (s.monitor.watchdogRunning, s.monitor.watchdogCount, s.monitor.expired) := by
  rw [(s.install_spares w b (k := 30) (by decide)).watchdog, s.metered_of_meter w b hmeter, hm]
  exact State.installMeter_watchdog (s.activated w) _ b hstate

end MeterInstall

/-- An install without METER leaves the lanes, the bank, the demand unit and the watchdog (R137). -/
theorem State.install_withoutMeter {s : State} {w : TableChoice} (hmeter : w.meter = false) (b : Band) :
    ((s.install w b).lanes, (s.install w b).aligner.cycles, (s.install w b).bank, (s.install w b).demand,
        (s.install w b).credits, (s.install w b).checkers, (s.install w b).freeChoices)
      = (s.lanes, s.aligner.cycles, s.bank, s.demand, s.credits, s.checkers, s.freeChoices) := by
  rw [State.install_metered, s.metered_of_other w b hmeter]
  rfl

theorem State.install_spares_of_other {s : State} {w : TableChoice} (hmeter : w.meter = false) (b : Band) {k : Nat}
    (hk : k ≠ 31) : s.Spares (s.install w b) k := by
  have hspares := s.install_spares w b hk
  rw [s.metered_of_other w b hmeter] at hspares
  exact ⟨hspares.latched, hspares.mask, hspares.watchdog⟩

end Sys2Proof.Machine

/-! # Closes with the installs that are requested (O28, O29) -/

namespace Sys2Proof.Machine

/-! ### Stage 8 of a close -/

/-- The outstanding requests, as the choice of tables that they install. -/
def Tables.requested (t : Tables) : TableChoice := { cal := t.calRequest, meter := t.meterRequest, calendar := t.calendarRequest }

theorem State.installRequested_eq (s : State) (b : Band) : s.installRequested b = s.install s.tables.requested b := rfl

theorem Tables.activate_requested_of_none {t : Tables} (hcal : t.calRequest = false) (hmeter : t.meterRequest = false)
    (hcalendar : t.calendarRequest = false) : t.activate t.requested = t := by
  cases t
  simp_all [Tables.activate, Tables.requested]

/-- Where nothing is requested nothing is installed (R137). -/
theorem State.installRequested_of_none {s : State} (h : s.tables.anyRequest = false) (b : Band) : s.installRequested b = s := by
  simp only [Tables.anyRequest, Bool.or_eq_false_iff] at h
  obtain ⟨⟨hcal, hmeter⟩, hcalendar⟩ := h
  have hactivated : s.activated s.tables.requested = s := by
    rw [State.activated, Tables.activate_requested_of_none hcal hmeter hcalendar]
    simp [Tables.requested, hcal]
  have hmetered : s.metered s.tables.requested b = s := (s.metered_of_other _ b hmeter).trans hactivated
  have hreacted : s.reacted s.tables.requested b = s := by
    rw [State.reacted, hmetered]
    simp [Tables.requested, hmeter, hcalendar]
  rw [State.installRequested_eq, State.install_eq, hreacted]
  simp [Tables.requested, State.raiseIf, hcal, hmeter, hcalendar]

/-- The installs of a close in METERING, with the next window after them (R67, R137). -/
theorem State.installedAtClose {s : State} (hstate : s.engine.state = .metering) (hany : s.tables.anyRequest = true) (b : Band) :
    s.withEmptyWindow.InstalledAtClose (s.installRequested b).withEmptyWindow b := by
  have hrun : s.engine.state ≠ .config := by rw [hstate]; decide
  have htables := s.installRequested_tables b
  rw [s.installRequested_eq] at htables ⊢
  have hengine : (s.install s.tables.requested b).engine = s.engine := by simp
  constructor
  case tables =>
    refine Eq.trans (b := s.tables.activate s.tables.requested) htables ?_
    simp only [Tables.activate, Tables.requested, Bool.and_not_self]
    rfl
  case announced => exact s.install_announced _ b hany
  case history => exact s.install_history _ b
  case band =>
    change (if (s.tables.requested.meter || s.tables.requested.calendar) = true then
      ((s.install s.tables.requested b).calendar.band, (s.install s.tables.requested b).calendar.source)
        = (s.install s.tables.requested b).bandNow
      else ((s.install s.tables.requested b).calendar.band, (s.install s.tables.requested b).calendar.source)
        = (s.calendar.band, s.calendar.source))
    split
    · rename_i h
      exact s.install_band _ b h
    · rename_i h
      rw [s.install_calendar_of_cal _ b (Bool.eq_false_iff.mpr h)]
  case clock => exact s.install_clock _ b
  case marks => exact s.install_marks _ b
  case requests => exact s.install_requests _ b hrun
  case engine =>
    change ({ (s.install s.tables.requested b).engine with
      window := some (s.install s.tables.requested b).emptyWindow } : Engine) = _
    rw [hengine]
    rfl
  case withoutMeter =>
    intro h
    exact ⟨State.install_withoutMeter h b, (State.install_spares_of_other h b (k := 30) (by decide)).watchdog⟩
  case lanes =>
    intro h
    exact State.install_atLanes (s := s) (w := s.tables.requested) h b
  case sameQuantum =>
    intro h hsame
    exact State.install_sameQuantum (s := s) (w := s.tables.requested) h b hsame
  case newQuantum =>
    intro m h hm hq
    obtain ⟨⟨hnormalised, hsnapshot⟩, htaken⟩ := State.install_newQuantum (s := s) (w := s.tables.requested) h b hm hq
    exact ⟨hnormalised, hsnapshot, htaken⟩
  case rollover =>
    cases h : s.tables.meterRequest with
    | true =>
      refine (State.install_rollover (s := s) (w := s.tables.requested) h b).trans ?_
      simp only [State.withEmptyWindow, h, true_and]
    | false =>
      have hkept := (State.install_spares_of_other (s := s) (w := s.tables.requested) h b (k := 30) (by decide)).latched
      refine (iff_of_eq (congrArg (· = true) hkept)).trans ?_
      simp only [State.withEmptyWindow, h, Bool.false_eq_true, false_and, exists_false, or_false]
  case sameInterval =>
    intro m h hm hmode hdi
    have hm' : s.tables.meterActive = some m := hm
    have hchanges : changesDemand s.tables.meterActive s.tables.meterPending.clamped = false := by
      refine Bool.eq_false_iff.mpr fun hchanges => ?_
      rcases (changesDemand_iff _ _).mp hchanges m hm with hne | hne
      · exact hne hmode
      · exact hne hdi
    obtain ⟨hdemand, hchoices, hcredits⟩ := State.install_demand_of_kept (s := s) (w := s.tables.requested) h b (.inl hchanges)
    refine ⟨hdemand, ?_, hchoices⟩
    have hlength : s.credits.length ≤ (s.install s.tables.requested b).credits.length := by
      rw [hcredits]
      by_cases hq : m.q = s.tables.meterPending.clamped.q
      · rw [State.installAtBank_of_same (fun m' hactive => by cases hm'.symm.trans hactive; exact hq)]
        exact Nat.le_refl _
      · rw [hm', State.installAtBank_of_changed hq, State.normalise_credits, List.length_append]
        exact Nat.le_add_right _ _
    exact hlength
  case newInterval =>
    intro h hchanged new base
    obtain ⟨⟨⟨hsums, hrestart, hterminal, hstamp⟩, hpast, hbegun, hidle⟩, hchoices⟩ :=
      State.install_abandoned (s := s) (w := s.tables.requested) h b ((changesDemand_iff _ _).mpr hchanged) hstate
    refine ⟨⟨hsums, hrestart, hterminal, hstamp, congrArg Prod.fst hpast, congrArg Prod.snd hpast, hchoices⟩,
      fun hmode => ?_, hidle⟩
    obtain ⟨hrunning, hpartial, hbase, hcurrent⟩ := hbegun hmode
    exact ⟨hrunning, hpartial, hbase, hcurrent.trans hbase⟩
  case watchdog =>
    intro m h hm
    exact State.install_watchdog (s := s) (w := s.tables.requested) h b hm hstate
  case frame =>
    refine ⟨?_, ?_, ?_⟩
    · simp [State.withEmptyWindow]
    · exact Link.with_urgent_eq (by simp [State.withEmptyWindow])
    · cases h : s.tables.meterRequest with
      | true => exact State.install_mask (s := s) (w := s.tables.requested) h b
      | false => exact (State.install_spares_of_other (s := s) (w := s.tables.requested) h b (k := 30) (by decide)).mask

/-! ### The close (R67) -/

section Close

variable (s : State) (w : Window) (o : Opening) (cause : CloseCause)

theorem State.closeStages_state : (s.closeStages w o cause).engine.state = s.engine.state := by
  rw [State.closeStages_engine]
  rfl

theorem State.closeWindow_of_metering (h : s.engine.state = .metering) : s.closeWindow w o cause =
    ((s.closeStages w o cause).installRequested w.band).withEmptyWindow := by
  have hstate := (s.closeStages_state w o cause).trans h
  simp only [State.closeWindow, hstate, if_true]
  rfl

/-- A close that installs nothing is its stages 1 to 7 and 9. -/
theorem State.closeWindow_of_noInstall (h : s.tables.anyRequest = false ∨ s.engine.state ≠ .metering) :
    s.closeWindow w o cause = s.closed w o cause := by
  by_cases hstate : s.engine.state = .metering
  · have hnone : (s.closeStages w o cause).tables.anyRequest = false := by
      have hkept : (s.closeStages w o cause).tables = s.tables := by simp
      rw [hkept]
      exact h.resolve_right (not_not_intro hstate)
    rw [State.closeWindow_of_metering _ _ _ _ hstate, State.installRequested_of_none hnone]
    rfl
  · have hstages : (s.closeStages w o cause).engine.state ≠ .metering := by
      rw [State.closeStages_state]
      exact hstate
    simp only [State.closeWindow, hstages, if_false]
    rfl

/-- A close in METERING with requests outstanding installs them (R137). -/
theorem State.closeWindow_installed (h : s.engine.state = .metering) (hany : s.tables.anyRequest = true) :
    (s.closed w o cause).InstalledAtClose (s.closeWindow w o cause) w.band := by
  rw [State.closeWindow_of_metering _ _ _ _ h]
  have hkept : (s.closeStages w o cause).tables = s.tables := by simp
  exact State.installedAtClose ((s.closeStages_state w o cause).trans h) (by rw [hkept]; exact hany) w.band

end Close

/-! ### SWITCH, TIME and INTERVAL requests (R64, R65) -/

theorem exec_forcedCloseRequest {s : State} (h : s.Ready) (request : ForcedCause) :
    exec (.forcedCloseRequest request) s = .next (s.takeRequest request) :=
  congrArg Host.Outcome.next (s.after_of_ready h (·.takeRequest request))

/-- The request is taken from the outstanding ones. -/
def State.withoutRequest (s : State) (request : ForcedCause) : State := { s with requests := s.requests.erase request }

theorem State.takeRequest_of_made {s : State} {request : ForcedCause} (h : request ∈ s.requests) :
    s.takeRequest request = (s.withoutRequest request).requestClose request :=
  if_pos (List.contains_iff_mem.mpr h)

theorem State.requestClose_of_empty {s : State} {w : Window} (hrun : s.engine.state ≠ .config)
    (hwindow : s.engine.window = some w) (hopening : w.opening = none) (request : ForcedCause) :
    s.requestClose request = s.requestEmpty w request := by
  cases hstate : s.engine.state with
  | config => exact absurd hstate hrun
  | metering | failsafe => simp only [State.requestClose, hstate, hwindow, hopening]

theorem State.requestClose_of_opened {s : State} {w : Window} {o : Opening} (hrun : s.engine.state ≠ .config)
    (hwindow : s.engine.window = some w) (hopening : w.opening = some o) (request : ForcedCause) :
    s.requestClose request = s.closeWindow w o (closeCauseOf request) := by
  cases hstate : s.engine.state with
  | config => exact absurd hstate hrun
  | metering | failsafe => simp only [State.requestClose, hstate, hwindow, hopening]

/-- Settles O29. -/
theorem forcedRequestsByTheOpenWindow : Obligations.ForcedRequestsByTheOpenWindow := by
  rintro s taken w request hready rfl
  have hmade (h : request ∈ s.requests) :
      exec (.forcedCloseRequest request) s = .next ((s.withoutRequest request).requestClose request) := by
    rw [exec_forcedCloseRequest hready, State.takeRequest_of_made h]
  refine ⟨fun hnot => ?_, fun h hconfig => ?_, fun h hrun hwindow hopening => ?_, fun o cause h hrun hwindow hopening hcause => ?_⟩
  · rw [exec_forcedCloseRequest hready]
    exact congrArg Host.Outcome.next (if_neg (mt List.contains_iff_mem.mp hnot))
  · have hconfig' : (s.withoutRequest request).engine.state = .config := hconfig
    rw [hmade h, State.requestClose, hconfig']
    rfl
  · have hempty := State.requestClose_of_empty (s := s.withoutRequest request) hrun hwindow hopening request
    rw [hmade h, hempty]
    refine ⟨?_, ?_, ?_⟩ <;> rintro rfl <;> rfl
  · have hcloses : closeCauseOf request = cause := by
      simp only [List.mem_cons, Prod.mk.injEq, List.not_mem_nil, or_false] at hcause
      rcases hcause with ⟨rfl, rfl⟩ | ⟨rfl, rfl⟩ | ⟨rfl, rfl⟩ <;> rfl
    have hclose : exec (.forcedCloseRequest request) s = .next ((s.withoutRequest request).closeWindow w o cause) := by
      rw [hmade h, State.requestClose_of_opened (s := s.withoutRequest request) hrun hwindow hopening, hcloses]
    have hclosed := (s.withoutRequest request).closed_closed w o cause
    refine ⟨fun hno => ⟨_, hclose, ?_⟩, fun hany hstate => ⟨_, _, hclose, hclosed, ?_⟩⟩
    · have hnone : (s.withoutRequest request).tables.anyRequest = false ∨ (s.withoutRequest request).engine.state ≠ .metering :=
        hno.imp id fun hfailsafe => ne_of_eq_of_ne hfailsafe (by decide)
      rw [State.closeWindow_of_noInstall _ _ _ _ hnone]
      exact hclosed
    · exact State.closeWindow_installed (s.withoutRequest request) w o cause hstate hany

end Sys2Proof.Machine

/-! # The set that fills the window (O28) -/

namespace Sys2Proof.Machine

/-! ### States that differ in what a close does not read -/

/-- A state that differs from another in the fault monitor and in the waiting notice alone. -/
theorem State.eq_withFlags {s t : State}
    (h : (t.resetApplied, t.lanes, t.aligner, t.released, t.history, t.completed, t.engine, t.requests, t.bank, t.calendar)
      = (s.resetApplied, s.lanes, s.aligner, s.released, s.history, s.completed, s.engine, s.requests, s.bank, s.calendar))
    (h' : (t.demand, t.credits, t.timeNotices, t.tables, t.capture, t.checkers, t.freeChoices, t.pending)
      = (s.demand, s.credits, s.timeNotices, s.tables, s.capture, s.checkers, s.freeChoices, s.pending))
    (hlink : { t.link with urgent := s.link.urgent } = s.link) :
    t = { s with monitor := t.monitor, link := { s.link with urgent := t.link.urgent } } := by
  rw [← hlink]
  simp only [Prod.mk.injEq] at h h'
  obtain ⟨h1, h2, h3, h4, h5, h6, h7, h8, h9, h10⟩ := h
  obtain ⟨h11, h12, h13, h14, h15, h16, h17, h18⟩ := h'
  rw [← h1, ← h2, ← h3, ← h4, ← h5, ← h6, ← h7, ← h8, ← h9, ← h10, ← h11, ← h12, ← h13, ← h14, ← h15, ← h16, ← h17, ← h18]

theorem State.reportEngine_eq_withFlags (s : State) : s.reportEngine =
    { s with
      monitor := s.reportEngine.monitor
      link := { s.link with urgent := s.reportEngine.link.urgent } } :=
  State.eq_withFlags (by simp) (by simp) (Link.with_urgent_eq (by simp))

/-- The close of a window reads neither the open window of the engine nor the flags but the marks that it may latch. -/
theorem State.Closed.of_flags {s u t : State} {w : Window} {o : Opening} {cause : CloseCause} (h : u.Closed t w o cause)
    (hs : s = { u with
      engine := { u.engine with window := s.engine.window }
      monitor := s.monitor
      link := { u.link with urgent := s.link.urgent } })
    (hrollover : s.Spares u 30) (hdropped : s.Spares u 36) : s.Closed t w o cause := by
  obtain ⟨hlatched, hmask, hwatchdog⟩ := hrollover
  obtain ⟨hlatched', -, -⟩ := hdropped
  generalize s.engine.window = window at hs
  generalize s.monitor = m at hs hlatched hmask hwatchdog hlatched'
  generalize s.link.urgent = n at hs
  subst hs
  exact {
    sequence := h.sequence, named := h.named, window := h.window, mode := h.mode, directions := h.directions
    reversals := h.reversals, low := h.low, exportCheck := h.exportCheck, exportFlags := h.exportFlags, shares := h.shares
    credited := h.credited, next := h.next, engine := h.engine, importChain := h.importChain, exportChain := h.exportChain
    grossChains := h.grossChains, otherBands := h.otherBands, bank := h.bank, credit := h.credit, marks := h.marks
    report := h.report
    rollover := by
      have hr := h.rollover
      rw [hlatched] at hr
      exact hr
    dropped := by
      have hd := h.dropped
      rw [hlatched'] at hd
      exact hd
    frame := by
      obtain ⟨hfirst, hsecond, hlink, hreset, hdog⟩ := h.frame
      refine ⟨hfirst, hsecond, ?_, ?_, hdog.trans hwatchdog⟩
      · have hurgent := congrArg (fun k : Link => { k with urgent := n }) hlink
        exact hurgent
      · rw [hreset, hmask] }

/-! ### The set that fills the window -/

/-- The interval counter after a set, with its terminal count taken where the set brings it (R119, R120, log 14). -/
theorem State.takeTerminal_of_counted {t : State} {d : Demand} (hd : t.demand = d.countSet) (hterminal : d.terminal = false) :
    t.takeTerminal = { t with
      requests := if d.state = .running ∧ d.current = 1 then t.requests ++ [.interval] else t.requests
      demand :=
        if d.state = .running ∧ d.current = 1 then
          { d with
            state := .ending, stampDay := t.calendar.day, stampMinute := t.calendar.minute
            current := if t.demandMode = .oneShot then 0 else d.base }
        else if d.state = .ending ∧ d.current = 1 then { d with current := if t.demandMode = .oneShot then 0 else d.base }
        else if d.state = .running ∨ d.state = .ending then { d with current := d.current - 1 }
        else d } := by
  have hkept (hcount : d.countSet.terminal = false) : t.takeTerminal = t :=
    if_neg (by rw [hd, hcount]; decide)
  by_cases hcounted : d.state = .running ∨ d.state = .ending
  · by_cases hone : d.current = 1
    · have hcount : d.countSet = { d with current := 0, terminal := true } := by
        rw [Demand.countSet_eq, if_pos ⟨hcounted, by omega⟩]
        simp [hone]
      rw [hcount] at hd
      rcases hcounted with hrunning | hending
      · simp [State.takeTerminal, State.takeTerminalCount, State.endInterval, hd, hrunning, hone, hterminal]
      · simp [State.takeTerminal, State.takeTerminalCount, State.endInterval, hd, hending, hone, hterminal]
    · have hcount : d.countSet = { d with current := d.current - 1 } := by
        rw [Demand.countSet_eq]
        by_cases hzero : d.current = 0
        · have hless : d.current - 1 = d.current := by omega
          rw [if_neg fun h => h.2 hzero, hless]
        · rw [if_pos ⟨hcounted, hzero⟩]
          simp [hone]
      rw [hkept (by rw [hcount]; exact hterminal), if_neg fun h => hone h.2, if_neg fun h => hone h.2,
        if_neg fun h => hone h.2, if_pos hcounted, ← hcount, ← hd]
  · have hcount : d.countSet = d := by rw [Demand.countSet_eq, if_neg fun h => hcounted h.1]
    rw [hkept (by rw [hcount]; exact hterminal), if_neg fun h => hcounted (.inl h.1), if_neg fun h => hcounted (.inl h.1),
      if_neg fun h => hcounted (.inr h.1), if_neg hcounted]
    conv_rhs => rw [← hcount, ← hd]

/-- A set that meets an open window leaves the requests for the close that follows. -/
theorem State.rebandEmpty_of_opened {s : State} {w : Window} {o : Opening} (hwindow : s.engine.window = some w)
    (hopening : w.opening = some o) : s.rebandEmpty = s := by
  simp only [State.rebandEmpty, hwindow, hopening, reduceCtorEq, false_and, and_false, if_false]

/-- The state with other completed sets on their way to netting. -/
def State.withSets (s : State) (rest : List CompletedSet) : State := { s with completed := rest }

/-- The set that fills the window is counted, ends the interval that it completes, and closes the window (R63, log 14). -/
theorem exec_setProcessing_of_full {s : State} (hready : s.Ready) {c : CompletedSet} {rest : List CompletedSet}
    {w filled : Window} {o : Opening} {m : Meter} (hcompleted : s.completed = c :: rest) (hrun : s.engine.state ≠ .config)
    (hwindow : s.engine.window = some w) (hopening : w.opening = some o) (hm : s.tables.meterActive = some m)
    (htaken : w.take c s.calendar.day s.calendar.minute m = filled) (ho : filled.opening = some o)
    (hfull : filled.count = o.meter.nw) :
    exec .setProcessing s = .next (((((s.withSets rest).counted filled
      (c.status.getLsbD 11)).reportEngine).takeTerminal).closeWindow filled o .full) := by
  have hreband : (s.withSets rest).rebandEmpty = s.withSets rest := State.rebandEmpty_of_opened hwindow hopening
  have hinto : (s.withSets rest).processSet c = (s.withSets rest).processInto w m c :=
    State.processSet_of_running (s := s.withSets rest) hrun hwindow hm c
  have hprocessed := State.processInto_eq (s := s.withSets rest) htaken ho
  rw [if_pos hfull] at hprocessed
  rw [exec_setProcessing hready hcompleted, ← State.withSets, hreband, hinto, hprocessed]

theorem Engine.countHold_eq (e : Engine) (hold : Bool) : e.countHold hold =
    { e with
      unmetered := hold
      unmeteredCount := if hold then min (e.unmeteredCount + 1) 4294967295 else e.unmeteredCount } := by
  cases hold
  · rfl
  · simp only [Engine.countHold, satInc_eq_min, if_true]
    rfl

/-- Settles O28: the close of the state in which the set has been counted, seen from the state without the engine's reports. -/
theorem fullWindowCloses : Obligations.FullWindowCloses := by
  intro s base c rest w filled o m hready hcompleted hrun hwindow hopening hm hfull hfilled hhold hsums d hbase
  obtain ⟨hcount, hband, hopened⟩ : filled.count = o.meter.nw ∧ filled.band = w.band ∧ filled.opening = some o := by
    simpa using hfilled
  have htaken : w.take c s.calendar.day s.calendar.minute m = filled := by
    rw [w.take_eq c s.calendar.day s.calendar.minute m (sums := filled.sums) (o := o) (by rw [hopening]; rfl) hhold hsums,
      hfull, ← hcount, ← hband, ← hopened]
  have hexec := exec_setProcessing_of_full hready hcompleted hrun hwindow hopening hm htaken hopened hcount
  have hterminal : s.demand.terminal = false := (s.quiet_iff.mp hready.2).2.2.2.1
  generalize hcounted : (s.withSets rest).counted filled (c.status.getLsbD 11) = counted at hexec
  have hstate : counted.engine.state = s.engine.state ∧ counted.tables = s.tables ∧ counted.demand = s.demand.countSet := by
    rw [← hcounted, State.counted, Engine.countHold_eq]
    exact ⟨rfl, rfl, rfl⟩
  obtain ⟨hstate, htables, hdemand⟩ := hstate
  have hended : counted.reportEngine.takeTerminal = _ :=
    State.takeTerminal_of_counted (t := counted.reportEngine) (d := s.demand) (by simpa using hdemand) hterminal
  have hended_state : counted.reportEngine.takeTerminal.engine.state = s.engine.state := by rw [hended, ← hstate]; simp
  have hended_tables : counted.reportEngine.takeTerminal.tables = s.tables := by rw [hended, ← htables]; simp
  have hspares (k : Nat) (hk : 29 ≤ k) : base.Spares counted.reportEngine.takeTerminal k := by
    have hmonitor : base.Spares counted k := .of_monitor (by rw [hbase, ← hcounted]; rfl) k
    exact (hmonitor.trans (counted.reportEngine_spares hk)).trans (.of_monitor (by rw [hended]) k)
  have hclosed : base.Closed (counted.reportEngine.takeTerminal.closed filled o .full) filled o .full := by
    refine (State.closed_closed _ filled o .full).of_flags ?_ (hspares 30 (by decide)) (hspares 36 (by decide))
    have hflags := counted.reportEngine_eq_withFlags
    rw [hended]
    generalize counted.reportEngine = reported at hflags
    generalize reported.monitor = monitor at hflags
    generalize reported.link.urgent = urgent at hflags
    rw [hflags, hbase, ← hcounted, State.counted, Engine.countHold_eq]
    rfl
  refine ⟨fun hno => ⟨_, hexec, ?_⟩, fun hany hmetering => ⟨_, _, hexec, hclosed, ?_⟩⟩
  · rw [State.closeWindow_of_noInstall]
    · exact hclosed
    · rw [hended_tables, hended_state]
      exact hno.imp id fun hfailsafe => ne_of_eq_of_ne hfailsafe (by decide)
  · rw [← hband]
    exact State.closeWindow_installed _ filled o .full (hended_state.trans hmetering) (by rw [hended_tables]; exact hany)

end Sys2Proof.Machine

/-! # ENGINE RESET (O36) -/

namespace Sys2Proof.Machine

/-! ### A command that is answered in the state after it -/

theorem State.withCommands_withCommands (s : State) (l l' : List (List Byte)) :
    (s.withCommands l).withCommands l' = s.withCommands l' := rfl

theorem State.withCommands_own (s : State) : s.withCommands s.link.commands = s := rfl

/-- A command answered OK, seen with the command queue that it found. -/
theorem State.execute_of_okay (s v : State) {code : Byte} {rest : List (List Byte)} {n : Nat} {params : List Byte}
    {own : List Byte → State → Reply} (h : s.Executes code params rest) (hlength : params.length = n)
    (hown : own params (s.withCommands rest) = v.okay []) (hcommands : v.link.commands = rest) :
    s.execute code (lengthIs n) own = (v.withCommands s.link.commands).answered rest code .ok [] := by
  refine s.execute_of_reply _ h (by simp [lengthIs, hlength]) ?_
  rw [hown, State.withCommands_withCommands, ← hcommands, State.withCommands_own]
  rfl

/-! ### Lanes and checkers (R21, R182) -/

/-- Every lane in TEST has taken its checker to IDLE (R182). -/
def State.testsEnded (s : State) : State := ((s.endLaneTest .a).endLaneTest .b).endLaneTest .c

theorem State.testsEnded_checkers_get (s : State) (x : Phase) : s.testsEnded.checkers.get x =
    if (s.lanes.get x).state = .test then { s.checkers.get x with state := .idle } else s.checkers.get x := by
  cases x <;> simp only [State.testsEnded, State.endLaneTest_checkers_get, State.endLaneTest_frame, reduceCtorEq, true_and,
    false_and, if_false]

theorem State.testsEnded_eq (s : State) : s.testsEnded = { s with checkers := s.testsEnded.checkers } := by
  have hone (t : State) (x : Phase) : t.endLaneTest x = { t with checkers := (t.endLaneTest x).checkers } := by
    unfold State.endLaneTest
    split <;> rfl
  rw [State.testsEnded, hone, hone (s.endLaneTest .a), hone s]

/-- A lane at the reset, field by field (R21). -/
theorem Lane.reset_eq (l : Lane) (x : Phase) (on : Bool) (exit : StrobeIndex) : l.reset x on exit =
    { l with
      state := if on then .seek else .off
      queue := []
      presentRun := 0, absentRun := 0, sequenceRun := 0, periodPosition := 0, periodErrors := 0, lastPeriodErrors := 0
      voltage := detectorAtPowerOn, current := detectorAtPowerOn, counters := laneCountersAtPowerOn
      down := (l.sendTestExit x exit).down } := by
  unfold Lane.reset Lane.sendTestExit
  split <;> rfl

/-- Of each lane's conditions none is left true by the reset. -/
theorem Lane.reset_conditions (l : Lane) (x : Phase) (on : Bool) (exit : StrobeIndex) :
    (l.reset x on exit).state.isLost = false ∧ (l.reset x on exit).state.isSuspect = false
      ∧ (l.reset x on exit).voltage.stuck = false ∧ (l.reset x on exit).current.stuck = false := by
  rw [Lane.reset_eq]
  cases on <;> exact ⟨rfl, rfl, rfl, rfl⟩

/-! ### The reset of all blocks -/

/-- The blocks after the reset, before what is on its way is dropped and the band is evaluated (R58). -/
def State.blocksReset (s : State) : State :=
  { s with
    lanes := ⟨s.lanes.a.reset .a (s.enabled .a) s.aligner.latestIndex, s.lanes.b.reset .b (s.enabled .b) s.aligner.latestIndex,
              s.lanes.c.reset .c (s.enabled .c) s.aligner.latestIndex⟩
    aligner := s.aligner.reset
    history := .all none
    engine := s.engine.reset
    demand := s.demand.abandonToIdle
    tables := s.tables.cancelRequests
    capture := s.capture.reset
    link := s.link.reset
    checkers := s.testsEnded.checkers }

theorem State.engineReset_eq (s : State) :
    s.engineReset = (s.blocksReset.dropHandOvers.withBandNow).resetMonitor s.tables.anyRequest := by
  have hended : s.engineReset = (({ s.testsEnded with
      lanes := ⟨s.testsEnded.lanes.a.reset .a (s.testsEnded.enabled .a) s.aligner.latestIndex,
                s.testsEnded.lanes.b.reset .b (s.testsEnded.enabled .b) s.aligner.latestIndex,
                s.testsEnded.lanes.c.reset .c (s.testsEnded.enabled .c) s.aligner.latestIndex⟩
      aligner := s.testsEnded.aligner.reset
      history := .all none
      engine := s.testsEnded.engine.reset
      demand := s.testsEnded.demand.abandonToIdle
      tables := s.testsEnded.tables.cancelRequests
      capture := s.testsEnded.capture.reset
      link := s.testsEnded.link.reset } : State).dropHandOvers.withBandNow).resetMonitor s.tables.anyRequest := rfl
  rw [hended, State.testsEnded_eq]
  rfl

theorem State.resetMonitor_eq (s : State) (cancelled : Bool) : s.resetMonitor cancelled =
    { s with monitor := (s.resetMonitor cancelled).monitor } := by
  cases cancelled <;> rfl

/-- The latched marks after the reset: those of the conditions, and of the cancelled requests (R153). -/
theorem State.resetMonitor_flags (s : State) (cancelled : Bool) :
    (s.resetMonitor cancelled).monitor.conditions = s.liveConditions
      ∧ (s.resetMonitor cancelled).monitor.latched =
        s.liveConditions ||| (if cancelled then Flag.applyCancelled.bit else 0)
      ∧ (s.resetMonitor cancelled).monitor.mask = s.monitor.mask
      ∧ (s.resetMonitor cancelled).monitor.alert = decide ((s.resetMonitor cancelled).monitor.latched &&& ~~~s.monitor.mask ≠ 0)
      ∧ (s.resetMonitor cancelled).monitor.watchdogRunning = false ∧ (s.resetMonitor cancelled).monitor.watchdogCount = 0
      ∧ (s.resetMonitor cancelled).monitor.expired = false := by
  cases cancelled
  · exact ⟨rfl, (BitVec.or_zero).symm, rfl, rfl, rfl, rfl, rfl⟩
  · exact ⟨rfl, rfl, rfl, rfl, rfl, rfl, rfl⟩

theorem State.blocksReset_lanes_get (s : State) (x : Phase) :
    s.blocksReset.lanes.get x = (s.lanes.get x).reset x (s.enabled x) s.aligner.latestIndex := by
  cases x <;> rfl

/-- After the reset the unset clock alone is a true condition (R153). -/
theorem State.blocksReset_liveConditions (s : State) :
    (s.blocksReset.dropHandOvers.withBandNow).liveConditions =
      if s.calendar.clockSet then 0 else Flag.clockNotSet.bit := by
  have hphase (x : Phase) : (s.blocksReset.dropHandOvers.withBandNow).phaseConditions x = 0 := by
    have hlane : (s.blocksReset.dropHandOvers.withBandNow).lanes.get x = _ := s.blocksReset_lanes_get x
    have hlow : (s.blocksReset.dropHandOvers.withBandNow).engine.lowVoltage.get x = false := by cases x <;> rfl
    obtain ⟨hlost, hsuspect, hv, hi⟩ := (s.lanes.get x).reset_conditions x (s.enabled x) s.aligner.latestIndex
    rw [State.phaseConditions, hlane, hlow, hlost, hsuspect, hv, hi]
    simp [Flag.bitIf]
  have hengine : (s.blocksReset.dropHandOvers.withBandNow).engine = s.engine.reset := rfl
  have hestimating : (s.blocksReset.dropHandOvers.withBandNow).aligner.estimating = false := rfl
  have hclock : (s.blocksReset.dropHandOvers.withBandNow).calendar.clockSet = s.calendar.clockSet := rfl
  rw [State.liveConditions, hphase, hphase, hphase, hengine, hestimating, hclock]
  cases s.calendar.clockSet <;> simp [Engine.reset, Flag.bitIf, ExportState.warns, ExportState.trips, EngineState.isFailsafe]

/-- Settles O36. -/
theorem engineResetRestoresTheBlocks : Obligations.EngineResetRestoresTheBlocks := by
  intro s rest h
  let u := (s.withCommands rest).blocksReset.dropHandOvers.withBandNow
  have hv : (s.withCommands rest).engineReset =
      { u with monitor := (u.resetMonitor s.tables.anyRequest).monitor } :=
    (State.engineReset_eq _).trans (State.resetMonitor_eq _ _)
  obtain ⟨hconditions, hlatched, hmask, halert, hrunning, hcount, hexpired⟩ := u.resetMonitor_flags s.tables.anyRequest
  have hlive : u.liveConditions = if s.calendar.clockSet then 0 else Flag.clockNotSet.bit :=
    (s.withCommands rest).blocksReset_liveConditions
  rw [hlive] at hconditions hlatched
  refine ⟨({ u with monitor := (u.resetMonitor s.tables.anyRequest).monitor } : State).withCommands s.link.commands,
    congrArg Host.Outcome.next (s.execute_of_okay _ h rfl (congrArg (·.okay []) hv) rfl), fun x => ?_, rfl, rfl, rfl, rfl, rfl,
    rfl, rfl, hmask, hrunning, hcount, hexpired, hconditions, hlatched, halert, rfl, rfl, rfl, rfl, rfl⟩
  have hlane : u.lanes.get x = _ :=
    ((s.withCommands rest).blocksReset_lanes_get x).trans (Lane.reset_eq _ _ _ _)
  have hcycle : u.aligner.cycles.get x = (s.aligner.cycles.get x).empty := PerPhase.get_map _ _ _
  have hchecker : u.checkers.get x = _ := (s.withCommands rest).testsEnded_checkers_get x
  refine ⟨congrArg Lane.queue hlane, congrArg Lane.counters hlane, congrArg Lane.voltage hlane, congrArg Lane.current hlane,
    congrArg (fun l => (l.presentRun, l.absentRun, l.sequenceRun)) hlane,
    congrArg (fun l => (l.periodPosition, l.periodErrors, l.lastPeriodErrors)) hlane, congrArg Lane.state hlane, hchecker,
    fun hno => (congrArg Lane.down hlane).trans ?_, fun n htest hn => (congrArg Lane.down hlane).trans ?_, ?_,
    congrArg CycleMemory.codes hcycle, congrArg CycleMemory.runCount hcycle, ?_⟩
  · have hkept : (s.lanes.get x).sendTestExit x (s.withCommands rest).aligner.latestIndex = s.lanes.get x := if_neg hno
    have hdown := congrArg Lane.down hkept
    exact hdown
  · have hexit : (s.withCommands rest).aligner.latestIndex = n := by
      have hlatest : (s.withCommands rest).aligner.latest = some n := hn
      simp only [Aligner.latestIndex, hlatest]
    have hsent : (s.lanes.get x).sendTestExit x n =
        (s.lanes.get x).send { kind := .testExit, lane := x, index := n, data := 0 } := if_pos htest
    rw [hexit]
    have hdown := congrArg Lane.down hsent
    exact hdown
  · exact PerPhase.get_all none x
  · have hestimated := congrArg CycleMemory.estimated hcycle
    exact hestimated

end Sys2Proof.Machine

/-! # APPLY TABLE (O49) -/

namespace Sys2Proof.Machine

/-! ### The first clamped field (R135) -/

theorem firstDifference_self (i : Nat) (l : List Nat) : firstDifference i l l = none := by
  induction l generalizing i with
  | nil => rfl
  | cons x l ih => exact (if_pos rfl).trans (ih (i + 1))

/-- The first place in which two lists of one length differ. -/
theorem firstDifference_of_first {l l' : List Nat} (hlength : l.length = l'.length) {i : Nat} (hdiffers : l'[i]? ≠ l[i]?)
    (hbefore : ∀ j < i, l'[j]? = l[j]?) (k : Nat) : firstDifference k l l' = some (k + i) := by
  induction l generalizing l' i k with
  | nil =>
    have hnil : l' = [] := List.length_eq_zero_iff.mp hlength.symm
    exact absurd (by rw [hnil]) hdiffers
  | cons x l ih =>
    cases l' with
    | nil => cases hlength
    | cons y l' =>
      cases i with
      | zero =>
        have hne : x ≠ y := fun h => hdiffers (by rw [h]; rfl)
        exact if_neg hne
      | succ i =>
        have hsame : x = y := Option.some.inj (hbefore 0 (Nat.succ_pos i)).symm
        have htail := ih (Nat.succ.inj hlength) (i := i) (by simpa using hdiffers)
          (fun j hj => by simpa using hbefore (j + 1) (Nat.succ_lt_succ hj)) (k + 1)
        refine (if_pos hsame).trans (htail.trans (congrArg some ?_))
        omega

theorem Tables.firstClamped_of {t : Tables} {name : TableName} {first : Option Nat}
    (h : (first = none ∧ (name = .meter → t.meterPending.clamped = t.meterPending))
      ∨ ∃ i, first = some i ∧ name = .meter ∧ t.meterPending.clamped.fields[i]? ≠ t.meterPending.fields[i]?
        ∧ ∀ j < i, t.meterPending.clamped.fields[j]? = t.meterPending.fields[j]?) : t.firstClamped name = first := by
  rcases h with ⟨rfl, hsame⟩ | ⟨i, rfl, rfl, hdiffers, hbefore⟩
  · cases name with
    | meter =>
      rw [Tables.firstClamped, hsame rfl]
      exact firstDifference_self 0 _
    | cal | calendar | trigger => rfl
  · rw [Tables.firstClamped, firstDifference_of_first (by rfl) hdiffers hbefore, Nat.zero_add]

/-! ### The checks in their order (R134) -/

theorem applyTable_of_staged {name : TableName} {number : Byte} (hnumber : number = name.number) (hstaged : number.toNat ≤ 2)
    (c1 c2 : Byte) (s : State) : applyTable [number, c1, c2] s = applyStaged name (c1 ++ c2) s := by
  have hcrc : BitVec.ofNat 16 (beNat [c1, c2]) = c1 ++ c2 := by
    rw [beNat_pair, BitVec.ofNat_toNat, BitVec.setWidth_eq]
  subst hnumber
  simp only [applyTable, List.getD_cons_zero, List.drop_succ_cons, List.drop_zero, tableOf_number, hcrc]
  cases name with
  | trigger => exact absurd hstaged (by decide)
  | cal | meter | calendar => rfl

theorem applyTable_of_unstaged {number : Byte} (h : 2 < number.toNat) (c1 c2 : Byte) (s : State) :
    applyTable [number, c1, c2] s = s.refuse .refusedRange := by
  by_cases htrigger : number = TableName.trigger.number
  · subst htrigger
    simp only [applyTable, List.getD_cons_zero, tableOf_number]
  · have hnone : tableOf number = none := by
      refine tableOf_eq_none (Nat.lt_of_le_of_ne h fun h3 => htrigger ?_)
      exact BitVec.eq_of_toNat_eq h3.symm
    simp only [applyTable, List.getD_cons_zero, hnone]

section Staged

variable {s : State} {name : TableName} {crc : BitVec 16} (hrun : s.engine.state ≠ .failsafe)

include hrun

theorem applyStaged_of_mismatch (hcrc : s.tables.pendingCrc name ≠ crc) : applyStaged name crc s =
    { state := s, status := .crcMismatch, data := beBytes 2 (s.tables.pendingCrc name).toNat } :=
  (if_neg hrun).trans (if_pos hcrc)

theorem applyStaged_of_fault (hcrc : s.tables.pendingCrc name = crc) {i : Nat} {k : FaultKind}
    (hfault : s.tables.pendingFault name = some (i, k)) : applyStaged name crc s =
    { state := s, status := .invalidTable, data := [BitVec.ofNat 8 i, faultKindCode k] } := by
  refine ((if_neg hrun).trans (if_neg (not_not_intro hcrc))).trans ?_
  rw [hfault]
  rfl

theorem applyStaged_of_sound (hcrc : s.tables.pendingCrc name = crc) (hfault : s.tables.pendingFault name = none) :
    applyStaged name crc s = acceptApply name s := by
  refine ((if_neg hrun).trans (if_neg (not_not_intro hcrc))).trans ?_
  rw [hfault]

end Staged

theorem acceptApply_of_config {s : State} (h : s.engine.state = .config) (name : TableName) : acceptApply name s =
    { state := s.install name.only s.calendar.band
      status := if (s.tables.firstClamped name).isSome then .clamped else .ok
      data := match s.tables.firstClamped name with
        | some i => [BitVec.ofNat 8 i]
        | none => [] } := by
  refine (if_pos h).trans ?_
  cases s.tables.firstClamped name <;> rfl

theorem acceptApply_of_running {s : State} (h : s.engine.state ≠ .config) (name : TableName) : acceptApply name s =
    { state := { s with tables := s.tables.setRequest name true }
      status := .staged
      data := match s.tables.firstClamped name with
        | some i => [1, BitVec.ofNat 8 i]
        | none => [0, 0] } := by
  refine (if_neg h).trans ?_
  cases s.tables.firstClamped name <;> rfl

/-! ### The installs in CONFIG -/

/-- A second raise of a flag that is not urgent does nothing. -/
theorem State.raise_raise {f : Flag} (h : f.urgent = false) (s : State) : (s.raise f).raise f = s.raise f := by
  have hraise (t : State) : t.raise f = { t with monitor := t.monitor.latch f } := by
    have hno : (f.urgent && !FlagSet.names t.monitor.mask f) = false := by rw [h]; rfl
    simp only [State.raise, hno, Bool.false_eq_true, if_false]
  have hlatch (m : Monitor) : (m.latch f).latch f = m.latch f := by
    simp [Monitor.latch, Monitor.formAlert, BitVec.or_assoc]
  rw [hraise, hraise, hlatch]

theorem Tables.activate_cal (t : Tables) :
    t.activate TableName.cal.only = { t with calActive := some t.calPending, calRequest := false } := by
  simp [Tables.activate, TableName.only]

theorem Tables.activate_meter (t : Tables) :
    t.activate TableName.meter.only = { t with meterActive := some t.meterPending.clamped, meterRequest := false } := by
  simp [Tables.activate, TableName.only]

theorem Tables.activate_calendar (t : Tables) :
    t.activate TableName.calendar.only = { t with calendarActive := some t.calendarPending, calendarRequest := false } := by
  simp [Tables.activate, TableName.only]

theorem State.install_cal (s : State) (b : Band) : s.install TableName.cal.only b =
    ({ s with
      tables := { s.tables with calActive := some s.tables.calPending, calRequest := false }
      history := .all none } : State).raise .tableInstalled := by
  rw [← s.tables.activate_cal]
  rfl

theorem State.install_calendar (s : State) (b : Band) : s.install TableName.calendar.only b =
    (({ s with tables := { s.tables with
      calendarActive := some s.tables.calendarPending, calendarRequest := false } } : State).evaluate).raise .tableInstalled := by
  rw [← s.tables.activate_calendar]
  rfl

theorem State.install_meter_raised (s : State) (b : Band) :
    (s.install TableName.meter.only b).raise .tableInstalled = s.install TableName.meter.only b := by
  have hraised : s.install TableName.meter.only b = (s.reacted TableName.meter.only b).raise .tableInstalled := s.install_eq _ b
  rw [hraised, State.raise_raise rfl]

/-- The request of one staged table is recorded and the others stay (R136). -/
theorem Tables.setRequest_eq (t : Tables) {name : TableName} (h : name ≠ .trigger) (v : Bool) :
    { t.setRequest name v with
        calRequest := t.calRequest, meterRequest := t.meterRequest, calendarRequest := t.calendarRequest } = t
      ∧ (t.setRequest name v).request name = v
      ∧ ∀ other, other ≠ name → (t.setRequest name v).request other = t.request other := by
  cases name with
  | trigger => exact absurd rfl h
  | cal | meter | calendar =>
    refine ⟨rfl, rfl, fun other hother => ?_⟩
    cases other <;> simp_all [Tables.setRequest, Tables.request]

/-- The install at the lanes is read from the tables, the lanes, the memories and the checkers alone. -/
theorem State.MeterInstalledAtLanes.congr {s s' t t' : State} (h : s.MeterInstalledAtLanes t)
    (htables : s'.tables = s.tables)
    (hbefore : (s'.lanes, s'.aligner.latest, s'.aligner.cycles, s'.checkers)
      = (s.lanes, s.aligner.latest, s.aligner.cycles, s.checkers))
    (hafter : (t'.lanes, t'.aligner.cycles, t'.checkers) = (t.lanes, t.aligner.cycles, t.checkers)) :
    s'.MeterInstalledAtLanes t' := by
  simp only [Prod.mk.injEq] at hbefore hafter
  obtain ⟨hlanes, hlatest, hcycles, hcheckers⟩ := hbefore
  obtain ⟨hlanes', hcycles', hcheckers'⟩ := hafter
  intro x
  simp only [State.enabled_of_tables htables, htables, hlanes, hlatest, hcycles, hcheckers, hlanes', hcycles', hcheckers']
  exact h x

/-- What the install of METER in CONFIG does, seen from the state before the command left the queue (R20, R36, R88). -/
theorem State.install_meter_of_config {s : State} (hconfig : s.engine.state = .config) :
    let t := s.install TableName.meter.only s.calendar.band
    t.tables = { s.tables with meterActive := some s.tables.meterPending.clamped, meterRequest := false }
      ∧ s.MeterInstalledAtLanes t
      ∧ ((s.tables.meterActive = none ∨ ∃ m, s.tables.meterActive = some m ∧ m.q = s.tables.meterPending.clamped.q) →
          t.bank = s.bank ∧ t.credits = s.credits)
      ∧ (∀ m, s.tables.meterActive = some m → m.q ≠ s.tables.meterPending.clamped.q →
          s.bank.accounts.Normalised t.bank.accounts s.tables.meterPending.clamped.q s.calendar.band
            ∧ t.bank.snapshot = s.bank.snapshot)
      ∧ (t.monitor.latched.getLsbD 30 = true ↔ s.monitor.latched.getLsbD 30 = true
        ∨ ∃ m, s.tables.meterActive = some m ∧ m.q ≠ s.tables.meterPending.clamped.q
          ∧ s.bank.accounts.Wraps s.tables.meterPending.clamped.q s.calendar.band ⟨0, 0⟩ (.all ⟨0, 0⟩))
      ∧ (t.calendar.band, t.calendar.source) = t.bandNow
      ∧ t.engine = s.engine ∧ t.demand = s.demand
      ∧ (t.released, t.history, t.completed, t.requests, t.timeNotices)
          = (s.released, s.history, s.completed, s.requests, s.timeNotices)
      ∧ (t.capture, t.freeChoices, t.pending) = (s.capture, s.freeChoices, s.pending)
      ∧ { t.link with urgent := s.link.urgent } = s.link := by
  intro t
  have hmeter : TableName.meter.only.meter = true := rfl
  have hstopped : s.engine.state ≠ .metering := by rw [hconfig]; decide
  obtain ⟨hdemand, hchoices, hcredits⟩ := State.install_demand_of_kept hmeter s.calendar.band (.inr hstopped)
  have hrequests := s.install_requests_of_config TableName.meter.only s.calendar.band hconfig
  have hhistory : t.history = s.history := s.install_history TableName.meter.only s.calendar.band
  refine ⟨?_, State.install_atLanes hmeter _, fun hsame => ?_, fun m hm hq => ?_, State.install_rollover hmeter _,
    s.install_band _ _ rfl, by simp [t], hdemand, ?_, ?_, Link.with_urgent_eq (by simp [t])⟩
  · exact (s.install_tables _ _).trans s.tables.activate_meter
  · have hquantum : ∀ m, s.tables.meterActive = some m → m.q = s.tables.meterPending.clamped.q := by
      intro m hm
      rcases hsame with hnone | ⟨m', hm', hq⟩
      · exact absurd (hnone.symm.trans hm) (by simp)
      · cases hm.symm.trans hm'
        exact hq
    obtain ⟨hbank, -⟩ := State.install_sameQuantum hmeter s.calendar.band hquantum
    rw [State.installAtBank_of_same hquantum] at hcredits
    exact ⟨hbank, hcredits⟩
  · exact (State.install_newQuantum hmeter s.calendar.band hm hq).1
  · rw [hhistory, show t.requests = s.requests from hrequests]
    simp [t]
  · rw [show t.freeChoices = s.freeChoices from hchoices]
    simp [t]

/-- Settles O49. -/
theorem applyTableChecksAndInstalls : Obligations.ApplyTableChecksAndInstalls := by
  rintro s rest name number c1 c2 crc h - - rfl
  have hstaged (hle : number.toNat ≤ 2) (hname : number = name.number) : applyTable [number, c1, c2] (s.withCommands rest) =
      applyStaged name (c1 ++ c2) (s.withCommands rest) := applyTable_of_staged hname hle c1 c2 _
  have hanswer {t : State} {status : Status} {data : List Byte}
      (hown : applyTable [number, c1, c2] (s.withCommands rest) = ⟨t.withCommands rest, status, data⟩) :
      exec .applyTable s = .next (t.answered rest 0x42#8 status data) :=
    congrArg Host.Outcome.next (s.execute_of_reply t h rfl hown)
  refine ⟨fun hlarge => ?_, fun hle hname hfailsafe => ?_, fun hle hname hrun hcrc => ?_, fun i k hle hname hrun hcrc hfault => ?_,
    fun first hle hname hrun hcrc hfault hfirst => ?_, rfl⟩
  · exact hanswer (applyTable_of_unstaged hlarge c1 c2 _)
  · exact hanswer ((hstaged hle hname).trans (if_pos hfailsafe))
  · have hmismatch := applyStaged_of_mismatch (s := s.withCommands rest) (name := name) (crc := c1 ++ c2) hrun hcrc.symm
    refine hanswer (t := s) ((hstaged hle hname).trans (hmismatch.trans ?_))
    rw [beBytes_word]
    rfl
  · exact hanswer (t := s) ((hstaged hle hname).trans (applyStaged_of_fault (s := s.withCommands rest) hrun hcrc.symm hfault))
  · have hclamped : (s.withCommands rest).tables.firstClamped name = first := Tables.firstClamped_of hfirst
    have haccepted : applyTable [number, c1, c2] (s.withCommands rest) = acceptApply name (s.withCommands rest) :=
      (hstaged hle hname).trans (applyStaged_of_sound (s := s.withCommands rest) hrun hcrc.symm hfault)
    have hnotTrigger : name ≠ .trigger := by
      rintro rfl
      rw [hname] at hle
      exact absurd hle (by decide)
    refine ⟨fun hmetering => ?_, fun hconfig hcal => ?_, fun hconfig hcalendar => ?_, fun hconfig hmeter => ?_⟩
    · have hrunning : (s.withCommands rest).engine.state ≠ .config := ne_of_eq_of_ne hmetering (by decide)
      have hown := haccepted.trans (acceptApply_of_running hrunning name)
      rw [hclamped] at hown
      obtain ⟨hkept, hmade, hothers⟩ := s.tables.setRequest_eq hnotTrigger true
      refine ⟨s.tables.setRequest name true, ?_, hkept, hmade, hothers⟩
      cases first <;> exact hanswer hown
    · subst hcal
      have hown := haccepted.trans (acceptApply_of_config (s := s.withCommands rest) hconfig .cal)
      rw [State.install_cal] at hown
      refine hanswer (hown.trans ?_)
      rw [← State.raise_withCommands]
      rfl
    · subst hcalendar
      have hown := haccepted.trans (acceptApply_of_config (s := s.withCommands rest) hconfig .calendar)
      rw [State.install_calendar] at hown
      refine hanswer (hown.trans ?_)
      rw [← State.raise_withCommands, ← State.evaluate_withCommands]
      rfl
    · subst hmeter
      have hown := haccepted.trans (acceptApply_of_config (s := s.withCommands rest) hconfig .meter)
      rw [hclamped] at hown
      have hinstalled := State.install_meter_of_config (s := s.withCommands rest) hconfig
      have hagain := (s.withCommands rest).install_meter_raised (s.withCommands rest).calendar.band
      have hcommands : ((s.withCommands rest).install TableName.meter.only (s.withCommands rest).calendar.band).link.commands
          = rest := by simp [State.withCommands]
      generalize (s.withCommands rest).install TableName.meter.only (s.withCommands rest).calendar.band = v
        at hown hinstalled hagain hcommands
      have hraised : ((v.withCommands s.link.commands).raise .tableInstalled).withCommands rest = v := by
        have hkept : v.withCommands rest = v := by
          conv_rhs => rw [← v.withCommands_own, hcommands]
        rw [← State.raise_withCommands, State.withCommands_withCommands, hkept, hagain]
      obtain ⟨htables, hlanes, hsame, hnew, hrollover, hband, hengine, hdemand, hfields, hfields', hlink⟩ := hinstalled
      refine ⟨v.withCommands s.link.commands, ?_, htables, hlanes.congr rfl rfl rfl, hsame, hnew, hrollover, hband, hengine, hdemand, hfields,
        hfields', ?_⟩
      · cases first <;> exact hanswer (hown.trans (by rw [hraised]))
      · exact congrArg (fun k : Link => { k with commands := s.link.commands }) hlink

end Sys2Proof.Machine

/-! # STOP (O33, O34) -/

namespace Sys2Proof.Machine

/-! ### The entry to CONFIG (R55, R124, R152) -/

/-- The state of the entry to CONFIG before the engine reports its conditions. -/
def State.stopped (s : State) : State :=
  { s with
    engine := { s.engine with state := .config, window := none, unmetered := false }
    demand := s.demand.abandonToIdle
    monitor := s.monitor.stopWatchdog }

theorem State.enterConfig_eq (s : State) : s.enterConfig = s.stopped.reportEngine.dropHandOvers := rfl

/-- What the entry to CONFIG makes of the blocks (R55, R124, log 16). -/
theorem State.enterConfig_kept (s : State) :
    s.enterConfig.engine = { s.engine with state := .config, window := none, unmetered := false }
      ∧ s.enterConfig.demand = s.demand.abandonToIdle
      ∧ s.enterConfig.released = s.released.map (fun r => { r with forNetting := false })
      ∧ (s.enterConfig.requests, s.enterConfig.credits, s.enterConfig.timeNotices, s.enterConfig.completed)
        = ([], [], [], []) := by
  rw [State.enterConfig_eq]
  refine ⟨?_, ?_, ?_, rfl⟩
  · simp [State.stopped]
  · simp [State.stopped]
  · have hreleased : s.stopped.reportEngine.released = s.released := by simp [State.stopped]
    simp only [State.dropHandOvers, hreleased]

/-- The entry to CONFIG stops the watchdog and keeps the mask and the latched marks above the engine's own. -/
theorem State.enterConfig_flags (s : State) :
    (s.enterConfig.monitor.watchdogRunning, s.enterConfig.monitor.watchdogCount, s.enterConfig.monitor.expired)
        = (false, 0, false)
      ∧ s.enterConfig.monitor.mask = s.monitor.mask
      ∧ s.enterConfig.monitor.latched.getLsbD 30 = s.monitor.latched.getLsbD 30 := by
  obtain ⟨hlatched, hmask, hwatchdog⟩ := s.stopped.reportEngine_spares (k := 30) (by decide)
  exact ⟨hwatchdog, hmask, hlatched⟩

/-- Under the monitor's law the entry to CONFIG can change UNMETERED and FAILSAFE alone. -/
theorem State.enterConfig_of_monitorLaw {s : State} (hs : s.MonitorLaw) : s.enterConfig =
    ((s.stopped.dropHandOvers).report .unmetered false).report .failsafe false := by
  obtain ⟨hlive, -⟩ := hs
  have hconditions : s.stopped.monitor.conditions = s.liveConditions := hlive
  have hlow (x : Phase) : FlagSet.names s.stopped.monitor.conditions (.lowVoltage x) = s.stopped.engine.lowVoltage.get x := by
    rw [hconditions, s.liveConditions_lowVoltage]
    rfl
  have hwarn : FlagSet.names s.stopped.monitor.conditions .exportWarn = s.stopped.engine.exportState.warns := by
    rw [hconditions, s.liveConditions_exportWarn]
    rfl
  have htrip : FlagSet.names s.stopped.monitor.conditions .exportTrip = s.stopped.engine.exportState.trips := by
    rw [hconditions, s.liveConditions_exportTrip]
    rfl
  have hreported : s.stopped.reportEngine = (s.stopped.report .unmetered false).report .failsafe false := by
    have ha := State.report_of_names _ _ _ (hlow .a)
    have hb := State.report_of_names _ _ _ (hlow .b)
    have hc := State.report_of_names _ _ _ (hlow .c)
    have hw := State.report_of_names _ _ _ hwarn
    have ht := State.report_of_names _ _ _ htrip
    simp only [PerPhase.get] at ha hb hc
    simp only [State.reportEngine]
    rw [ha, hb, hc, hw, ht]
    rfl
  rw [State.enterConfig_eq, hreported]
  simp only [State.report_false]
  rfl

/-! ### The rows of STOP -/

theorem State.stopMetering_of_opened {s : State} {w : Window} {o : Opening} (hwindow : s.engine.window = some w)
    (hopening : w.opening = some o) : s.stopMetering = (s.closeWindow w o .stop).enterConfig.evaluate := by
  simp only [State.stopMetering, hwindow, hopening]

theorem State.stopMetering_of_empty {s : State} {w : Window} (hwindow : s.engine.window = some w) (hopening : w.opening = none) :
    s.stopMetering = (s.enterConfig.installRequested s.calendar.band).evaluate := by
  simp only [State.stopMetering, hwindow, hopening]

theorem stop_of_running {s : State} (h : s.engine.state ≠ .config) (p : List Byte) : stop p s = s.stopMetering.okay [] := if_neg h

/-- STOP while windows run, seen with the command queue that it found. -/
theorem exec_stop_of_running {s : State} {rest : List (List Byte)} (h : s.Executes 0x11#8 [] rest)
    (hrun : s.engine.state ≠ .config) : exec .stop s =
      .next (((s.withCommands rest).stopMetering.withCommands s.link.commands).answered rest 0x11#8 .ok []) :=
  congrArg Host.Outcome.next (s.execute_of_okay _ h rfl (stop_of_running (s := s.withCommands rest) hrun []) (by simp [State.withCommands]))

/-! ### STOP with an empty window: the installs in CONFIG -/

/-- An install while METERING does not run leaves the watchdog (R150). -/
theorem State.install_watchdog_of_stopped {s : State} (h : s.engine.state ≠ .metering) (w : TableChoice) (b : Band) :
    ((s.install w b).monitor.watchdogRunning, (s.install w b).monitor.watchdogCount, (s.install w b).monitor.expired)
      = (s.monitor.watchdogRunning, s.monitor.watchdogCount, s.monitor.expired) := by
  cases hmeter : w.meter with
  | false => exact (State.install_spares_of_other hmeter b (k := 30) (by decide)).watchdog
  | true =>
    rw [(s.install_spares w b (k := 30) (by decide)).watchdog, s.metered_of_meter w b hmeter]
    obtain ⟨t, hspares, hengine, heq⟩ := (s.activated w).installMeter_spares s.tables.meterActive
      s.tables.meterPending.clamped b (k := 31) (by decide) (by decide) (by decide)
    have hstate : t.engine.state ≠ .metering := by rw [hengine]; exact h
    rw [heq, State.installAtWatchdog_of_stopped hstate, hspares.watchdog]
    rfl

theorem State.installRequested_rollover (s : State) (b : Band) :
    (s.installRequested b).monitor.latched.getLsbD 30 = true ↔ s.monitor.latched.getLsbD 30 = true
      ∨ ∃ m, s.tables.meterRequest = true ∧ s.tables.meterActive = some m ∧ m.q ≠ s.tables.meterPending.clamped.q
        ∧ s.bank.accounts.Wraps s.tables.meterPending.clamped.q b ⟨0, 0⟩ (.all ⟨0, 0⟩) := by
  cases h : s.tables.meterRequest with
  | true =>
    refine (State.install_rollover (s := s) (w := s.tables.requested) h b).trans ?_
    simp only [true_and]
  | false =>
    have hkept := (State.install_spares_of_other (s := s) (w := s.tables.requested) h b (k := 30) (by decide)).latched
    refine (iff_of_eq (congrArg (· = true) hkept)).trans ?_
    simp only [Bool.false_eq_true, false_and, exists_false, or_false]

/-- Without a new quantum the bank stays, and no credit joins those on their way (R88). -/
theorem State.installRequested_sameQuantum {s : State} (b : Band) (hcredits : s.credits = [])
    (h : s.tables.meterRequest = false ∨ ∃ m, s.tables.meterActive = some m ∧ m.q = s.tables.meterPending.clamped.q) :
    (s.installRequested b).bank = s.bank ∧ (s.installRequested b).credits = [] := by
  cases hmeter : s.tables.meterRequest with
  | false =>
    have hkept := State.install_withoutMeter (s := s) (w := s.tables.requested) hmeter b
    simp only [Prod.mk.injEq] at hkept
    obtain ⟨-, -, hbank, -, hcredits', -, -⟩ := hkept
    exact ⟨hbank, hcredits'.trans hcredits⟩
  | true =>
    obtain ⟨m, hm, hq⟩ := h.resolve_left (by rw [hmeter]; decide)
    obtain ⟨hbank, taken, htaken⟩ := State.install_sameQuantum (s := s) (w := s.tables.requested) hmeter b
      (fun m' hm' => by cases hm.symm.trans hm'; exact hq)
    rw [hcredits] at htaken
    exact ⟨hbank, (List.append_eq_nil_iff.mp htaken.symm).2⟩

theorem State.installRequested_demand_of_stopped {s : State} (h : s.engine.state ≠ .metering) (b : Band) :
    (s.installRequested b).demand = s.demand := by
  cases hmeter : s.tables.meterRequest with
  | false =>
    have hkept := State.install_withoutMeter (s := s) (w := s.tables.requested) hmeter b
    simp only [Prod.mk.injEq] at hkept
    exact hkept.2.2.2.1
  | true => exact (State.install_demand_of_kept (s := s) (w := s.tables.requested) hmeter b (.inr h)).1

/-- STOP with an empty window and apply requests outstanding, block by block (R55, R89, R137). -/
theorem State.stopMetering_installs {s : State} {w : Window} (hwindow : s.engine.window = some w) (hopening : w.opening = none)
    (hany : s.tables.anyRequest = true) :
    let t := s.stopMetering
    let new := s.tables.meterPending.clamped
    t.engine = { s.engine with state := .config, window := none, unmetered := false }
      ∧ t.demand = s.demand.abandonToIdle ∧ t.monitor.watchdogRunning = false ∧ t.monitor.watchdogCount = 0
      ∧ t.tables = { s.tables with
          calActive := if s.tables.calRequest then some s.tables.calPending else s.tables.calActive
          meterActive := if s.tables.meterRequest then some new else s.tables.meterActive
          calendarActive := if s.tables.calendarRequest then some s.tables.calendarPending else s.tables.calendarActive
          calRequest := false, meterRequest := false, calendarRequest := false }
      ∧ t.monitor.latched.getLsbD 31 = true
      ∧ t.history = (if s.tables.calRequest then .all none else s.history)
      ∧ (t.calendar.band, t.calendar.source) = t.bandNow
      ∧ (s.tables.meterRequest = true → s.MeterInstalledAtLanes t)
      ∧ (s.tables.meterRequest = false → t.lanes = s.lanes)
      ∧ ((s.tables.meterRequest = false ∨ ∃ m, s.tables.meterActive = some m ∧ m.q = new.q) →
          t.bank = s.bank ∧ t.credits = [])
      ∧ (∀ m, s.tables.meterRequest = true → s.tables.meterActive = some m → m.q ≠ new.q →
          s.bank.accounts.Normalised t.bank.accounts new.q s.calendar.band ∧ t.bank.snapshot = s.bank.snapshot)
      ∧ (t.monitor.latched.getLsbD 30 = true ↔ s.monitor.latched.getLsbD 30 = true
        ∨ ∃ m, s.tables.meterRequest = true ∧ s.tables.meterActive = some m ∧ m.q ≠ new.q
          ∧ s.bank.accounts.Wraps new.q s.calendar.band ⟨0, 0⟩ (.all ⟨0, 0⟩))
      ∧ (t.requests, t.completed, t.timeNotices) = ([], [], [])
      ∧ (t.capture, t.pending) = (s.capture, s.pending) := by
  obtain ⟨hengine, hdemand, -, hdropped⟩ := s.enterConfig_kept
  obtain ⟨hwatchdog, -, hlatched⟩ := s.enterConfig_flags
  simp only [Prod.mk.injEq] at hdropped hwatchdog
  obtain ⟨hrequests, hcredits, hnotices, hcompleted⟩ := hdropped
  obtain ⟨hrunning, hcount, -⟩ := hwatchdog
  have htables : s.enterConfig.tables = s.tables := by simp
  have hbank : s.enterConfig.bank = s.bank := by simp
  have hbefore : (s.lanes, s.aligner.latest, s.aligner.cycles, s.checkers)
      = (s.enterConfig.lanes, s.enterConfig.aligner.latest, s.enterConfig.aligner.cycles, s.enterConfig.checkers) := by simp
  have hhistory : s.enterConfig.history = s.history := by simp
  have hfields : (s.enterConfig.capture, s.enterConfig.pending) = (s.capture, s.pending) := by simp
  rw [State.stopMetering_of_empty hwindow hopening]
  generalize s.enterConfig = e at *
  have hconfig : e.engine.state = .config := by rw [hengine]
  have hstopped : e.engine.state ≠ .metering := by rw [hconfig]; decide
  have hinstalledEngine : (e.installRequested s.calendar.band).engine = e.engine := by simp
  have hinstalledConfig : (e.installRequested s.calendar.band).engine.state = .config := by rw [hinstalledEngine, hconfig]
  have hinstalledWatchdog := State.install_watchdog_of_stopped hstopped e.tables.requested s.calendar.band
  simp only [Prod.mk.injEq] at hinstalledWatchdog
  intro t new
  refine ⟨?_, ?_, ?_, ?_, ?_, ?_, ?_, State.evaluate_bandNow _, fun hmeter => ?_, fun hmeter => ?_, fun hsame => ?_,
    fun m hmeter hm hq => ?_, ?_, ?_, ?_⟩
  · rw [← hengine, ← hinstalledEngine]
    simp [t]
  · rw [← hdemand, ← State.installRequested_demand_of_stopped hstopped s.calendar.band]
    simp [t]
  · rw [← hrunning, ← hinstalledWatchdog.1]
    simp [t, State.installRequested_eq]
  · rw [← hcount, ← hinstalledWatchdog.2.1]
    simp [t, State.installRequested_eq]
  · have hactivated : t.tables = e.tables.activate e.tables.requested := by
      rw [← e.install_tables _ s.calendar.band]
      simp [t, State.installRequested_eq]
    rw [hactivated, htables]
    simp only [Tables.activate, Tables.requested, Bool.and_not_self]
    rfl
  · have hannounced := e.install_announced e.tables.requested s.calendar.band (by rw [htables]; exact hany)
    simpa [t, State.installRequested_eq] using hannounced
  · have hkept : t.history = (e.install e.tables.requested s.calendar.band).history := by
      simp [t, State.installRequested_eq]
    rw [hkept, e.install_history, hhistory]
    exact if_congr (by rw [Tables.requested, htables]) rfl rfl
  · have hlanes := State.install_atLanes (s := e) (w := e.tables.requested) (by rw [htables]; exact hmeter) s.calendar.band
    exact hlanes.congr htables.symm hbefore (by simp [t, State.installRequested_eq])
  · have hkept := State.install_withoutMeter (s := e) (w := e.tables.requested) (by rw [htables]; exact hmeter) s.calendar.band
    have hlanes := congrArg Prod.fst hkept
    have hlanes' := congrArg Prod.fst hbefore
    dsimp only at hlanes hlanes'
    rw [hlanes', ← hlanes]
    simp [t, State.installRequested_eq]
  · have hsame : e.tables.meterRequest = false
        ∨ ∃ m, e.tables.meterActive = some m ∧ m.q = e.tables.meterPending.clamped.q := by
      rw [htables]
      exact hsame
    obtain ⟨hbank', hcredits'⟩ := State.installRequested_sameQuantum s.calendar.band hcredits hsame
    rw [← hbank, ← hbank', ← hcredits']
    simp [t]
  · have hnew := (State.install_newQuantum (s := e) (w := e.tables.requested) (by rw [htables]; exact hmeter) s.calendar.band
      (by rw [htables]; exact hm) (by rw [htables]; exact hq)).1
    rw [htables, hbank] at hnew
    simpa [t, State.installRequested_eq, htables] using hnew
  · have hrollover := e.installRequested_rollover s.calendar.band
    rw [htables, hbank, hlatched] at hrollover
    simpa [t] using hrollover
  · have hrequests' := State.evaluate_requests_of_config _ hinstalledConfig
    have hinstalled := e.install_requests_of_config e.tables.requested s.calendar.band hconfig
    rw [← hcompleted, ← hnotices, show t.requests = [] from hrequests'.trans (hinstalled.trans hrequests)]
    simp [t]
  · rw [← hfields]
    simp [t]

/-- Settles O33. -/
theorem stopEntersConfig : Obligations.StopEntersConfig := by
  intro s rest w h hlaw idle engine new
  refine ⟨fun hconfig => ?_, fun hnone hrun hwindow hopening => ?_, fun hany hrun hwindow hopening => ?_⟩
  · exact congrArg Host.Outcome.next (s.execute_of_refused h rfl (if_pos hconfig))
  · have hlaw' : (s.withCommands rest).MonitorLaw := hlaw.congr rfl rfl
    have hnone' : (s.withCommands rest).enterConfig.tables.anyRequest = false := by
      have hkept : (s.withCommands rest).enterConfig.tables = s.tables := by simp [State.withCommands]
      rw [hkept, hnone]
    have hstop : (s.withCommands rest).stopMetering =
        (((s.stopped.dropHandOvers).report .unmetered false).report .failsafe false).evaluate.withCommands rest := by
      rw [State.stopMetering_of_empty (s := s.withCommands rest) hwindow hopening, State.installRequested_of_none hnone',
        State.enterConfig_of_monitorLaw hlaw', ← State.evaluate_withCommands, ← State.report_withCommands,
        ← State.report_withCommands]
      rfl
    refine congrArg Host.Outcome.next (s.execute_of_reply _ h rfl
      ((stop_of_running (s := s.withCommands rest) hrun []).trans ?_))
    rw [hstop]
    rfl
  · have hinstalls := State.stopMetering_installs (s := s.withCommands rest) hwindow hopening hany
    have hexec := exec_stop_of_running h hrun
    generalize (s.withCommands rest).stopMetering = v at hinstalls hexec
    obtain ⟨h1, h2, h3, h4, h5, h6, h7, h8, hlanes, h10, h11, h12, h13, h14, h15⟩ := hinstalls
    exact ⟨v.withCommands s.link.commands, hexec, h1, h2, h3, h4, h5, h6, h7, h8,
      fun hmeter => (hlanes hmeter).congr rfl rfl rfl, h10, h11, h12, h13, h14, h15⟩

end Sys2Proof.Machine

/-! # STOP with sets in the window (O34) -/

namespace Sys2Proof.Machine

/-! ### The close and the command queue -/

/-- A close knows nothing of the command queue. -/
theorem State.Closed.withCommands {s t : State} {w : Window} {o : Opening} {cause : CloseCause} {l : List (List Byte)}
    (h : (s.withCommands l).Closed t w o cause) : s.Closed (t.withCommands s.link.commands) w o cause where
  sequence := h.sequence
  named := h.named
  window := h.window
  mode := h.mode
  directions := h.directions
  reversals := h.reversals
  low := h.low
  exportCheck := h.exportCheck
  exportFlags := h.exportFlags
  shares := h.shares
  credited := h.credited
  next := h.next
  engine := h.engine
  importChain := h.importChain
  exportChain := h.exportChain
  grossChains := h.grossChains
  otherBands := h.otherBands
  bank := h.bank
  rollover := h.rollover
  credit := h.credit
  marks := h.marks
  report := h.report
  dropped := h.dropped
  frame := by
    obtain ⟨hfirst, hsecond, hlink, hreset, hwatchdog⟩ := h.frame
    refine ⟨hfirst, hsecond, ?_, hreset, hwatchdog⟩
    have hcommands := congrArg (fun k : Link => { k with commands := s.link.commands }) hlink
    exact hcommands

/-- The installs at a close know nothing of the command queue. -/
theorem State.InstalledAtClose.withCommands {s t : State} {b : Band} (h : s.InstalledAtClose t b) (l : List (List Byte)) :
    (s.withCommands l).InstalledAtClose (t.withCommands l) b where
  tables := h.tables
  announced := h.announced
  history := h.history
  band := h.band
  clock := h.clock
  marks := h.marks
  requests := h.requests
  engine := h.engine
  withoutMeter := h.withoutMeter
  lanes hmeter := (h.lanes hmeter).congr rfl rfl rfl
  sameQuantum := h.sameQuantum
  newQuantum := h.newQuantum
  rollover := h.rollover
  sameInterval := h.sameInterval
  newInterval := h.newInterval
  watchdog := h.watchdog
  frame := by
    obtain ⟨hfields, hlink, hmask⟩ := h.frame
    refine ⟨hfields, ?_, hmask⟩
    have hcommands := congrArg (fun k : Link => { k with commands := l }) hlink
    exact hcommands

/-! ### What the installs leave of a close -/

/-- Whether or not it installs, a close leaves the engine's own close, the link, the clock and the sets before it. -/
structure State.ClosedAlike (closed t : State) : Prop where
  engine : { t.engine with window := closed.engine.window } = closed.engine
  link : { t.link with urgent := closed.link.urgent } = closed.link
  clock : { t.calendar with band := closed.calendar.band, source := closed.calendar.source } = closed.calendar
  windowClosed : t.aligner.windowClosed = closed.aligner.windowClosed
  released : t.released = closed.released

theorem State.InstalledAtClose.closedAlike {s t : State} {b : Band} (h : s.InstalledAtClose t b) : s.ClosedAlike t where
  engine := by rw [h.engine]
  link := h.frame.2.1
  clock := h.clock
  windowClosed := by
    have hmark := congrArg Aligner.windowClosed h.marks
    exact hmark
  released := congrArg (fun f => f.2.1) h.frame.1

theorem State.closeWindow_closedAlike (s : State) (w : Window) (o : Opening) (cause : CloseCause) :
    (s.closed w o cause).ClosedAlike (s.closeWindow w o cause) := by
  by_cases hinstalls : s.tables.anyRequest = true ∧ s.engine.state = .metering
  · obtain ⟨hany, hstate⟩ := hinstalls
    exact (State.closeWindow_installed s w o cause hstate hany).closedAlike
  · have hno : s.tables.anyRequest = false ∨ s.engine.state ≠ .metering := by
      rcases not_and_or.mp hinstalls with h | h
      · exact .inl (Bool.eq_false_iff.mpr h)
      · exact .inr h
    rw [State.closeWindow_of_noInstall _ _ _ _ hno]
    exact ⟨rfl, rfl, rfl, rfl, rfl⟩

/-! ### The entry to CONFIG after the close -/

/-- What STOP makes of the state after its close (R55, R124, R152). -/
theorem State.stopMetering_of_closed {s : State} {w : Window} {o : Opening} (hwindow : s.engine.window = some w)
    (hopening : w.opening = some o) :
    let t := s.stopMetering
    let installed := s.closeWindow w o .stop
    let closed := s.closed w o .stop
    t.engine = { closed.engine with state := .config, window := none, unmetered := false }
      ∧ t.demand = installed.demand.abandonToIdle
      ∧ (t.bank, t.tables, t.lanes, t.capture) = (installed.bank, installed.tables, installed.lanes, installed.capture)
      ∧ (t.checkers, t.history, t.pending) = (installed.checkers, installed.history, installed.pending)
      ∧ t.monitor.watchdogRunning = false ∧ t.monitor.watchdogCount = 0
      ∧ t.monitor.expired = false ∧ (t.resetApplied, t.monitor.mask) = (installed.resetApplied, installed.monitor.mask)
      ∧ { t.link with urgent := closed.link.urgent } = closed.link ∧ t.aligner.windowClosed = true
      ∧ (t.calendar.band, t.calendar.source) = t.bandNow
      ∧ { t.calendar with band := s.calendar.band, source := s.calendar.source } = s.calendar
      ∧ t.released = s.released.map (fun r => { r with forNetting := false }) ∧ t.freeChoices = installed.freeChoices
      ∧ (t.requests, t.credits, t.timeNotices, t.completed) = ([], [], [], []) := by
  intro t installed closed
  have ht : t = installed.enterConfig.evaluate := State.stopMetering_of_opened hwindow hopening
  obtain ⟨hengineAlike, hlinkAlike, hclockAlike, hmarkAlike, hreleasedAlike⟩ := s.closeWindow_closedAlike w o .stop
  have hclosed : s.Closed closed w o .stop := s.closed_closed w o .stop
  obtain ⟨hengine, hdemand, hreleased, hdropped⟩ := installed.enterConfig_kept
  obtain ⟨hwatchdog, hmask, -⟩ := installed.enterConfig_flags
  simp only [Prod.mk.injEq] at hdropped hwatchdog
  obtain ⟨hrequests, hcredits, hnotices, hcompleted⟩ := hdropped
  obtain ⟨hrunning, hcount, hexpired⟩ := hwatchdog
  have hconfig : installed.enterConfig.engine.state = .config := by rw [hengine]
  have hlink : { t.link with urgent := installed.link.urgent } = installed.link :=
    Link.with_urgent_eq (by rw [ht]; simp)
  have hcalendar : { t.calendar with band := installed.calendar.band, source := installed.calendar.source }
      = installed.calendar := by
    have hclock := installed.enterConfig.evaluate_clock
    simp only [State.enterConfig_frame] at hclock
    rw [ht]
    exact hclock
  refine ⟨?_, ?_, ?_, ?_, ?_, ?_, ?_, ?_, ?_, ?_, ?_, ?_, ?_, ?_, ?_⟩
  · rw [ht, ← hengineAlike]
    simp only [State.evaluate_frame]
    exact hengine
  · rw [ht]
    simp only [State.evaluate_frame]
    exact hdemand
  · rw [ht]; simp
  · rw [ht]; simp
  · rw [ht, ← hrunning]; simp
  · rw [ht, ← hcount]; simp
  · rw [ht, ← hexpired]; simp
  · rw [ht, ← hmask]; simp
  · rw [← hlinkAlike, ← hlink]
  · have hmark : closed.aligner.windowClosed = true := by rw [hclosed.marks]
    rw [← hmark, ← hmarkAlike, ht]
    simp [installed]
  · rw [ht]
    exact State.evaluate_bandNow _
  · have hkept : closed.calendar = s.calendar := by
      have hframe := hclosed.frame.1
      simp only [Prod.mk.injEq] at hframe
      exact hframe.2.2.2.2.2.1
    rw [← hkept, ← hclockAlike, ← hcalendar]
  · have hkept : closed.released = s.released := congrArg (fun f => f.2.1) hclosed.frame.1
    rw [ht, ← hkept, ← hreleasedAlike, ← hreleased]
    simp
  · rw [ht]; simp
  · rw [ht, State.evaluate_requests_of_config _ hconfig, hrequests]
    simp [hcredits, hnotices, hcompleted]

/-- Settles O34. -/
theorem stopClosesTheOpenWindow : Obligations.StopClosesTheOpenWindow := by
  intro s rest w o h hrun hwindow hopening
  have hstop := State.stopMetering_of_closed (s := s.withCommands rest) hwindow hopening
  have hexec := exec_stop_of_running h hrun
  have hclosed := ((s.withCommands rest).closed_closed w o .stop).withCommands
  have hnoInstall (hno : s.tables.anyRequest = false ∨ s.engine.state = .failsafe) :
      (s.withCommands rest).closeWindow w o .stop = (s.withCommands rest).closed w o .stop :=
    State.closeWindow_of_noInstall _ w o .stop (hno.imp id fun hfailsafe => ne_of_eq_of_ne hfailsafe (by decide))
  have hinstalled (hany : s.tables.anyRequest = true) (hstate : s.engine.state = .metering) :
      ((s.withCommands rest).closed w o .stop).InstalledAtClose ((s.withCommands rest).closeWindow w o .stop) w.band :=
    State.closeWindow_installed _ w o .stop hstate hany
  generalize (s.withCommands rest).stopMetering = t at hstop hexec
  generalize (s.withCommands rest).closed w o .stop = closed at hstop hclosed hnoInstall hinstalled
  generalize (s.withCommands rest).closeWindow w o .stop = installed at hstop hnoInstall hinstalled
  obtain ⟨h1, h2, h3, h4, h5, h6, h7, h8, hlink, h10, h11, h12, h13, h14, h15⟩ := hstop
  refine ⟨t.withCommands s.link.commands, closed.withCommands s.link.commands, installed.withCommands s.link.commands, hexec,
    hclosed, fun hno => congrArg (·.withCommands s.link.commands) (hnoInstall hno),
    fun hany hstate => (hinstalled hany hstate).withCommands _, h1, h2, h3, h4, h5, h6, h7, h8, ?_, h10, h11, h12, h13, h14, h15⟩
  have hcommands := congrArg (fun k : Link => { k with commands := s.link.commands }) hlink
  exact hcommands

end Sys2Proof.Machine
